-- ==== Sys2Proof/Word.lean ====
section
/-! DEFINITION. The machine's words: bytes of memory, 32-bit register words and addresses, 64-bit operand and result
registers (00_scope R7). Their arithmetic is `BitVec`'s own. -/

namespace Sys2Proof

/-- One byte of memory (20_memory R50). -/
abbrev Byte := BitVec 8

/-- A 32-bit register or port word (10_state R21, 20_memory R50). -/
abbrev Word32 := BitVec 32

/-- A 64-bit operand or result register (10_state R23). -/
abbrev Word64 := BitVec 64

end Sys2Proof
end

