-- ==== Sys2Proof/Syntax.lean ====
section
/-! DEFINITION. The abstract syntax of FROST-CORE's commands: the operand types (30_encoding R81), the element
types of tables and samples (R82), one constructor of `Instr` per legal command word (opcode_table.json, R84), and
`Form`, the shape of a command: an operation with its type fields, admitted or not (R82 says which are). -/

namespace Sys2Proof

/-- The six operand and result types (30_encoding R81). -/
inductive Ty where
  | u16
  | s16
  | u32
  | s32
  | u64
  | s64
  deriving DecidableEq, Repr

/-- The element type of a table or a sample, U16 or S16 (30_encoding R81, 00_scope R17). -/
inductive Elem where
  | u16
  | s16
  deriving DecidableEq, Repr

/-- An operation with its type fields (30_encoding R82, R89), before the question which combinations are admitted. -/
inductive Form where
  | div (nt dt rt : Ty)
  | mul (xt yt rt : Ty)
  | mulw (xt yt : Ty)
  | muldiv (xt yt zt rt : Ty)
  | lim (xt rt : Ty)
  | dsearch (et : Elem)
  | curve (et : Elem)
  | map (et : Elem)
  | mapg (et : Elem)
  | savg (et : Elem)
  | deb
  | tstart
  | telapsed
  | tisstopped
  | tstop
  | crc8
  deriving DecidableEq, Repr

/-- The 336 commands, one constructor per row of opcode_table.json, in the table's order. A command carries no
operand: its word holds types only, and every operand comes from the latched registers (30_encoding R85). -/
inductive Instr where
  | divU16U16U16 | divU16U16S16 | divU16U16U32 | divU16U16S32 | divU16S16U16 | divU16S16S16 | divU16S16U32
  | divU16S16S32 | divU16U32U16 | divU16U32S16 | divU16U32U32 | divU16U32S32 | divU16S32U16 | divU16S32S16
  | divU16S32U32 | divU16S32S32 | divS16U16U16 | divS16U16S16 | divS16U16U32 | divS16U16S32 | divS16S16U16
  | divS16S16S16 | divS16S16U32 | divS16S16S32 | divS16U32U16 | divS16U32S16 | divS16U32U32 | divS16U32S32
  | divS16S32U16 | divS16S32S16 | divS16S32U32 | divS16S32S32 | divU32U16U16 | divU32U16S16 | divU32U16U32
  | divU32U16S32 | divU32S16U16 | divU32S16S16 | divU32S16U32 | divU32S16S32 | divU32U32U16 | divU32U32S16
  | divU32U32U32 | divU32U32S32 | divU32S32U16 | divU32S32S16 | divU32S32U32 | divU32S32S32 | divS32U16U16
  | divS32U16S16 | divS32U16U32 | divS32U16S32 | divS32S16U16 | divS32S16S16 | divS32S16U32 | divS32S16S32
  | divS32U32U16 | divS32U32S16 | divS32U32U32 | divS32U32S32 | divS32S32U16 | divS32S32S16 | divS32S32U32
  | divS32S32S32 | divU64U32U32 | divU64U32S32 | divU64S32U32 | divU64S32S32 | divS64U32U32 | divS64U32S32
  | divS64S32U32 | divS64S32S32 | mulU16U16U16 | mulU16U16S16 | mulU16S16U16 | mulU16S16S16 | mulU16U32U16
  | mulU16U32S16 | mulU16U32U32 | mulU16U32S32 | mulU16S32U16 | mulU16S32S16 | mulU16S32U32 | mulU16S32S32
  | mulU16U64U16 | mulU16U64S16 | mulU16U64U32 | mulU16U64S32 | mulU16U64U64 | mulU16U64S64 | mulU16S64U16
  | mulU16S64S16 | mulU16S64U32 | mulU16S64S32 | mulU16S64U64 | mulU16S64S64 | mulS16U16U16 | mulS16U16S16
  | mulS16S16U16 | mulS16S16S16 | mulS16U32U16 | mulS16U32S16 | mulS16U32U32 | mulS16U32S32 | mulS16S32U16
  | mulS16S32S16 | mulS16S32U32 | mulS16S32S32 | mulS16U64U16 | mulS16U64S16 | mulS16U64U32 | mulS16U64S32
  | mulS16U64U64 | mulS16U64S64 | mulS16S64U16 | mulS16S64S16 | mulS16S64U32 | mulS16S64S32 | mulS16S64U64
  | mulS16S64S64 | mulU32U16U16 | mulU32U16S16 | mulU32U16U32 | mulU32U16S32 | mulU32S16U16 | mulU32S16S16
  | mulU32S16U32 | mulU32S16S32 | mulU32U32U16 | mulU32U32S16 | mulU32U32U32 | mulU32U32S32 | mulU32S32U16
  | mulU32S32S16 | mulU32S32U32 | mulU32S32S32 | mulU32U64U16 | mulU32U64S16 | mulU32U64U32 | mulU32U64S32
  | mulU32U64U64 | mulU32U64S64 | mulU32S64U16 | mulU32S64S16 | mulU32S64U32 | mulU32S64S32 | mulU32S64U64
  | mulU32S64S64 | mulS32U16U16 | mulS32U16S16 | mulS32U16U32 | mulS32U16S32 | mulS32S16U16 | mulS32S16S16
  | mulS32S16U32 | mulS32S16S32 | mulS32U32U16 | mulS32U32S16 | mulS32U32U32 | mulS32U32S32 | mulS32S32U16
  | mulS32S32S16 | mulS32S32U32 | mulS32S32S32 | mulS32U64U16 | mulS32U64S16 | mulS32U64U32 | mulS32U64S32
  | mulS32U64U64 | mulS32U64S64 | mulS32S64U16 | mulS32S64S16 | mulS32S64U32 | mulS32S64S32 | mulS32S64U64
  | mulS32S64S64 | mulU64U16U16 | mulU64U16S16 | mulU64U16U32 | mulU64U16S32 | mulU64U16U64 | mulU64U16S64
  | mulU64S16U16 | mulU64S16S16 | mulU64S16U32 | mulU64S16S32 | mulU64S16U64 | mulU64S16S64 | mulU64U32U16
  | mulU64U32S16 | mulU64U32U32 | mulU64U32S32 | mulU64U32U64 | mulU64U32S64 | mulU64S32U16 | mulU64S32S16
  | mulU64S32U32 | mulU64S32S32 | mulU64S32U64 | mulU64S32S64 | mulU64U64U16 | mulU64U64S16 | mulU64U64U32
  | mulU64U64S32 | mulU64U64U64 | mulU64U64S64 | mulU64S64U16 | mulU64S64S16 | mulU64S64U32 | mulU64S64S32
  | mulU64S64U64 | mulU64S64S64 | mulS64U16U16 | mulS64U16S16 | mulS64U16U32 | mulS64U16S32 | mulS64U16U64
  | mulS64U16S64 | mulS64S16U16 | mulS64S16S16 | mulS64S16U32 | mulS64S16S32 | mulS64S16U64 | mulS64S16S64
  | mulS64U32U16 | mulS64U32S16 | mulS64U32U32 | mulS64U32S32 | mulS64U32U64 | mulS64U32S64 | mulS64S32U16
  | mulS64S32S16 | mulS64S32U32 | mulS64S32S32 | mulS64S32U64 | mulS64S32S64 | mulS64U64U16 | mulS64U64S16
  | mulS64U64U32 | mulS64U64S32 | mulS64U64U64 | mulS64U64S64 | mulS64S64U16 | mulS64S64S16 | mulS64S64U32
  | mulS64S64S32 | mulS64S64U64 | mulS64S64S64 | mulwU32U32 | mulwU32S32 | mulwS32U32 | mulwS32S32
  | muldivU32U32U32U16 | muldivU32U32U32S16 | muldivU32U32U32U32 | muldivU32U32U32S32 | muldivU32U32S32U16
  | muldivU32U32S32S16 | muldivU32U32S32U32 | muldivU32U32S32S32 | muldivU32S32U32U16 | muldivU32S32U32S16
  | muldivU32S32U32U32 | muldivU32S32U32S32 | muldivU32S32S32U16 | muldivU32S32S32S16 | muldivU32S32S32U32
  | muldivU32S32S32S32 | muldivS32U32U32U16 | muldivS32U32U32S16 | muldivS32U32U32U32 | muldivS32U32U32S32
  | muldivS32U32S32U16 | muldivS32U32S32S16 | muldivS32U32S32U32 | muldivS32U32S32S32 | muldivS32S32U32U16
  | muldivS32S32U32S16 | muldivS32S32U32U32 | muldivS32S32U32S32 | muldivS32S32S32U16 | muldivS32S32S32S16
  | muldivS32S32S32U32 | muldivS32S32S32S32 | limU16U16 | limU16S16 | limU16U32 | limU16S32 | limU16U64
  | limU16S64 | limS16U16 | limS16S16 | limS16U32 | limS16S32 | limS16U64 | limS16S64 | limU32U16 | limU32S16
  | limU32U32 | limU32S32 | limU32U64 | limU32S64 | limS32U16 | limS32S16 | limS32U32 | limS32S32 | limS32U64
  | limS32S64 | limU64U16 | limU64S16 | limU64U32 | limU64S32 | limU64U64 | limU64S64 | limS64U16 | limS64S16
  | limS64U32 | limS64S32 | limS64U64 | limS64S64 | dsearchU16 | dsearchS16 | curveU16 | curveS16 | mapU16
  | mapS16 | mapgU16 | mapgS16 | savgU16 | savgS16 | deb | tstart | telapsed | tisstopped | tstop | crc8
  deriving DecidableEq, Repr

end Sys2Proof
end

