-- ==== Sys2Proof/Machine/Types.lean ====
section
/-! DEFINITION. What a type code means (30_encoding R81, 00_scope R11) and which operation and types each command
is (opcode_table.json, 30_encoding R89). -/

namespace Sys2Proof

/-- `W(T)`, the width of a type in bits (30_encoding R81). -/
def Ty.width : Ty → Nat
  | .u16 | .s16 => 16
  | .u32 | .s32 => 32
  | .u64 | .s64 => 64

/-- `signed(T)` (30_encoding R81). -/
def Ty.signed : Ty → Bool
  | .s16 | .s32 | .s64 => true
  | .u16 | .u32 | .u64 => false

/-- `min(T)` (00_scope R11). -/
def Ty.min (t : Ty) : Int :=
  if t.signed then -(2 ^ (t.width - 1) : Int) else 0

/-- `max(T)` (00_scope R11). -/
def Ty.max (t : Ty) : Int :=
  if t.signed then (2 ^ (t.width - 1) : Int) - 1 else (2 ^ t.width : Int) - 1

/-- The 32-bit type with the signedness of `t`: `RT32` of MULDIV (42_muldiv_limit R140). -/
def Ty.to32 (t : Ty) : Ty :=
  if t.signed then .s32 else .u32

/-- The element type as an operand type. -/
def Elem.ty : Elem → Ty
  | .u16 => .u16
  | .s16 => .s16

/-- `QT`, the type of a query against elements of this type: s32 for s16, u32 for u16 (30_encoding R85). -/
def Elem.query : Elem → Ty
  | .u16 => .u32
  | .s16 => .s32

/-- The operation and the type fields of each command (the rows of opcode_table.json). -/
def Instr.form : Instr → Form
  | .divU16U16U16 => .div .u16 .u16 .u16
  | .divU16U16S16 => .div .u16 .u16 .s16
  | .divU16U16U32 => .div .u16 .u16 .u32
  | .divU16U16S32 => .div .u16 .u16 .s32
  | .divU16S16U16 => .div .u16 .s16 .u16
  | .divU16S16S16 => .div .u16 .s16 .s16
  | .divU16S16U32 => .div .u16 .s16 .u32
  | .divU16S16S32 => .div .u16 .s16 .s32
  | .divU16U32U16 => .div .u16 .u32 .u16
  | .divU16U32S16 => .div .u16 .u32 .s16
  | .divU16U32U32 => .div .u16 .u32 .u32
  | .divU16U32S32 => .div .u16 .u32 .s32
  | .divU16S32U16 => .div .u16 .s32 .u16
  | .divU16S32S16 => .div .u16 .s32 .s16
  | .divU16S32U32 => .div .u16 .s32 .u32
  | .divU16S32S32 => .div .u16 .s32 .s32
  | .divS16U16U16 => .div .s16 .u16 .u16
  | .divS16U16S16 => .div .s16 .u16 .s16
  | .divS16U16U32 => .div .s16 .u16 .u32
  | .divS16U16S32 => .div .s16 .u16 .s32
  | .divS16S16U16 => .div .s16 .s16 .u16
  | .divS16S16S16 => .div .s16 .s16 .s16
  | .divS16S16U32 => .div .s16 .s16 .u32
  | .divS16S16S32 => .div .s16 .s16 .s32
  | .divS16U32U16 => .div .s16 .u32 .u16
  | .divS16U32S16 => .div .s16 .u32 .s16
  | .divS16U32U32 => .div .s16 .u32 .u32
  | .divS16U32S32 => .div .s16 .u32 .s32
  | .divS16S32U16 => .div .s16 .s32 .u16
  | .divS16S32S16 => .div .s16 .s32 .s16
  | .divS16S32U32 => .div .s16 .s32 .u32
  | .divS16S32S32 => .div .s16 .s32 .s32
  | .divU32U16U16 => .div .u32 .u16 .u16
  | .divU32U16S16 => .div .u32 .u16 .s16
  | .divU32U16U32 => .div .u32 .u16 .u32
  | .divU32U16S32 => .div .u32 .u16 .s32
  | .divU32S16U16 => .div .u32 .s16 .u16
  | .divU32S16S16 => .div .u32 .s16 .s16
  | .divU32S16U32 => .div .u32 .s16 .u32
  | .divU32S16S32 => .div .u32 .s16 .s32
  | .divU32U32U16 => .div .u32 .u32 .u16
  | .divU32U32S16 => .div .u32 .u32 .s16
  | .divU32U32U32 => .div .u32 .u32 .u32
  | .divU32U32S32 => .div .u32 .u32 .s32
  | .divU32S32U16 => .div .u32 .s32 .u16
  | .divU32S32S16 => .div .u32 .s32 .s16
  | .divU32S32U32 => .div .u32 .s32 .u32
  | .divU32S32S32 => .div .u32 .s32 .s32
  | .divS32U16U16 => .div .s32 .u16 .u16
  | .divS32U16S16 => .div .s32 .u16 .s16
  | .divS32U16U32 => .div .s32 .u16 .u32
  | .divS32U16S32 => .div .s32 .u16 .s32
  | .divS32S16U16 => .div .s32 .s16 .u16
  | .divS32S16S16 => .div .s32 .s16 .s16
  | .divS32S16U32 => .div .s32 .s16 .u32
  | .divS32S16S32 => .div .s32 .s16 .s32
  | .divS32U32U16 => .div .s32 .u32 .u16
  | .divS32U32S16 => .div .s32 .u32 .s16
  | .divS32U32U32 => .div .s32 .u32 .u32
  | .divS32U32S32 => .div .s32 .u32 .s32
  | .divS32S32U16 => .div .s32 .s32 .u16
  | .divS32S32S16 => .div .s32 .s32 .s16
  | .divS32S32U32 => .div .s32 .s32 .u32
  | .divS32S32S32 => .div .s32 .s32 .s32
  | .divU64U32U32 => .div .u64 .u32 .u32
  | .divU64U32S32 => .div .u64 .u32 .s32
  | .divU64S32U32 => .div .u64 .s32 .u32
  | .divU64S32S32 => .div .u64 .s32 .s32
  | .divS64U32U32 => .div .s64 .u32 .u32
  | .divS64U32S32 => .div .s64 .u32 .s32
  | .divS64S32U32 => .div .s64 .s32 .u32
  | .divS64S32S32 => .div .s64 .s32 .s32
  | .mulU16U16U16 => .mul .u16 .u16 .u16
  | .mulU16U16S16 => .mul .u16 .u16 .s16
  | .mulU16S16U16 => .mul .u16 .s16 .u16
  | .mulU16S16S16 => .mul .u16 .s16 .s16
  | .mulU16U32U16 => .mul .u16 .u32 .u16
  | .mulU16U32S16 => .mul .u16 .u32 .s16
  | .mulU16U32U32 => .mul .u16 .u32 .u32
  | .mulU16U32S32 => .mul .u16 .u32 .s32
  | .mulU16S32U16 => .mul .u16 .s32 .u16
  | .mulU16S32S16 => .mul .u16 .s32 .s16
  | .mulU16S32U32 => .mul .u16 .s32 .u32
  | .mulU16S32S32 => .mul .u16 .s32 .s32
  | .mulU16U64U16 => .mul .u16 .u64 .u16
  | .mulU16U64S16 => .mul .u16 .u64 .s16
  | .mulU16U64U32 => .mul .u16 .u64 .u32
  | .mulU16U64S32 => .mul .u16 .u64 .s32
  | .mulU16U64U64 => .mul .u16 .u64 .u64
  | .mulU16U64S64 => .mul .u16 .u64 .s64
  | .mulU16S64U16 => .mul .u16 .s64 .u16
  | .mulU16S64S16 => .mul .u16 .s64 .s16
  | .mulU16S64U32 => .mul .u16 .s64 .u32
  | .mulU16S64S32 => .mul .u16 .s64 .s32
  | .mulU16S64U64 => .mul .u16 .s64 .u64
  | .mulU16S64S64 => .mul .u16 .s64 .s64
  | .mulS16U16U16 => .mul .s16 .u16 .u16
  | .mulS16U16S16 => .mul .s16 .u16 .s16
  | .mulS16S16U16 => .mul .s16 .s16 .u16
  | .mulS16S16S16 => .mul .s16 .s16 .s16
  | .mulS16U32U16 => .mul .s16 .u32 .u16
  | .mulS16U32S16 => .mul .s16 .u32 .s16
  | .mulS16U32U32 => .mul .s16 .u32 .u32
  | .mulS16U32S32 => .mul .s16 .u32 .s32
  | .mulS16S32U16 => .mul .s16 .s32 .u16
  | .mulS16S32S16 => .mul .s16 .s32 .s16
  | .mulS16S32U32 => .mul .s16 .s32 .u32
  | .mulS16S32S32 => .mul .s16 .s32 .s32
  | .mulS16U64U16 => .mul .s16 .u64 .u16
  | .mulS16U64S16 => .mul .s16 .u64 .s16
  | .mulS16U64U32 => .mul .s16 .u64 .u32
  | .mulS16U64S32 => .mul .s16 .u64 .s32
  | .mulS16U64U64 => .mul .s16 .u64 .u64
  | .mulS16U64S64 => .mul .s16 .u64 .s64
  | .mulS16S64U16 => .mul .s16 .s64 .u16
  | .mulS16S64S16 => .mul .s16 .s64 .s16
  | .mulS16S64U32 => .mul .s16 .s64 .u32
  | .mulS16S64S32 => .mul .s16 .s64 .s32
  | .mulS16S64U64 => .mul .s16 .s64 .u64
  | .mulS16S64S64 => .mul .s16 .s64 .s64
  | .mulU32U16U16 => .mul .u32 .u16 .u16
  | .mulU32U16S16 => .mul .u32 .u16 .s16
  | .mulU32U16U32 => .mul .u32 .u16 .u32
  | .mulU32U16S32 => .mul .u32 .u16 .s32
  | .mulU32S16U16 => .mul .u32 .s16 .u16
  | .mulU32S16S16 => .mul .u32 .s16 .s16
  | .mulU32S16U32 => .mul .u32 .s16 .u32
  | .mulU32S16S32 => .mul .u32 .s16 .s32
  | .mulU32U32U16 => .mul .u32 .u32 .u16
  | .mulU32U32S16 => .mul .u32 .u32 .s16
  | .mulU32U32U32 => .mul .u32 .u32 .u32
  | .mulU32U32S32 => .mul .u32 .u32 .s32
  | .mulU32S32U16 => .mul .u32 .s32 .u16
  | .mulU32S32S16 => .mul .u32 .s32 .s16
  | .mulU32S32U32 => .mul .u32 .s32 .u32
  | .mulU32S32S32 => .mul .u32 .s32 .s32
  | .mulU32U64U16 => .mul .u32 .u64 .u16
  | .mulU32U64S16 => .mul .u32 .u64 .s16
  | .mulU32U64U32 => .mul .u32 .u64 .u32
  | .mulU32U64S32 => .mul .u32 .u64 .s32
  | .mulU32U64U64 => .mul .u32 .u64 .u64
  | .mulU32U64S64 => .mul .u32 .u64 .s64
  | .mulU32S64U16 => .mul .u32 .s64 .u16
  | .mulU32S64S16 => .mul .u32 .s64 .s16
  | .mulU32S64U32 => .mul .u32 .s64 .u32
  | .mulU32S64S32 => .mul .u32 .s64 .s32
  | .mulU32S64U64 => .mul .u32 .s64 .u64
  | .mulU32S64S64 => .mul .u32 .s64 .s64
  | .mulS32U16U16 => .mul .s32 .u16 .u16
  | .mulS32U16S16 => .mul .s32 .u16 .s16
  | .mulS32U16U32 => .mul .s32 .u16 .u32
  | .mulS32U16S32 => .mul .s32 .u16 .s32
  | .mulS32S16U16 => .mul .s32 .s16 .u16
  | .mulS32S16S16 => .mul .s32 .s16 .s16
  | .mulS32S16U32 => .mul .s32 .s16 .u32
  | .mulS32S16S32 => .mul .s32 .s16 .s32
  | .mulS32U32U16 => .mul .s32 .u32 .u16
  | .mulS32U32S16 => .mul .s32 .u32 .s16
  | .mulS32U32U32 => .mul .s32 .u32 .u32
  | .mulS32U32S32 => .mul .s32 .u32 .s32
  | .mulS32S32U16 => .mul .s32 .s32 .u16
  | .mulS32S32S16 => .mul .s32 .s32 .s16
  | .mulS32S32U32 => .mul .s32 .s32 .u32
  | .mulS32S32S32 => .mul .s32 .s32 .s32
  | .mulS32U64U16 => .mul .s32 .u64 .u16
  | .mulS32U64S16 => .mul .s32 .u64 .s16
  | .mulS32U64U32 => .mul .s32 .u64 .u32
  | .mulS32U64S32 => .mul .s32 .u64 .s32
  | .mulS32U64U64 => .mul .s32 .u64 .u64
  | .mulS32U64S64 => .mul .s32 .u64 .s64
  | .mulS32S64U16 => .mul .s32 .s64 .u16
  | .mulS32S64S16 => .mul .s32 .s64 .s16
  | .mulS32S64U32 => .mul .s32 .s64 .u32
  | .mulS32S64S32 => .mul .s32 .s64 .s32
  | .mulS32S64U64 => .mul .s32 .s64 .u64
  | .mulS32S64S64 => .mul .s32 .s64 .s64
  | .mulU64U16U16 => .mul .u64 .u16 .u16
  | .mulU64U16S16 => .mul .u64 .u16 .s16
  | .mulU64U16U32 => .mul .u64 .u16 .u32
  | .mulU64U16S32 => .mul .u64 .u16 .s32
  | .mulU64U16U64 => .mul .u64 .u16 .u64
  | .mulU64U16S64 => .mul .u64 .u16 .s64
  | .mulU64S16U16 => .mul .u64 .s16 .u16
  | .mulU64S16S16 => .mul .u64 .s16 .s16
  | .mulU64S16U32 => .mul .u64 .s16 .u32
  | .mulU64S16S32 => .mul .u64 .s16 .s32
  | .mulU64S16U64 => .mul .u64 .s16 .u64
  | .mulU64S16S64 => .mul .u64 .s16 .s64
  | .mulU64U32U16 => .mul .u64 .u32 .u16
  | .mulU64U32S16 => .mul .u64 .u32 .s16
  | .mulU64U32U32 => .mul .u64 .u32 .u32
  | .mulU64U32S32 => .mul .u64 .u32 .s32
  | .mulU64U32U64 => .mul .u64 .u32 .u64
  | .mulU64U32S64 => .mul .u64 .u32 .s64
  | .mulU64S32U16 => .mul .u64 .s32 .u16
  | .mulU64S32S16 => .mul .u64 .s32 .s16
  | .mulU64S32U32 => .mul .u64 .s32 .u32
  | .mulU64S32S32 => .mul .u64 .s32 .s32
  | .mulU64S32U64 => .mul .u64 .s32 .u64
  | .mulU64S32S64 => .mul .u64 .s32 .s64
  | .mulU64U64U16 => .mul .u64 .u64 .u16
  | .mulU64U64S16 => .mul .u64 .u64 .s16
  | .mulU64U64U32 => .mul .u64 .u64 .u32
  | .mulU64U64S32 => .mul .u64 .u64 .s32
  | .mulU64U64U64 => .mul .u64 .u64 .u64
  | .mulU64U64S64 => .mul .u64 .u64 .s64
  | .mulU64S64U16 => .mul .u64 .s64 .u16
  | .mulU64S64S16 => .mul .u64 .s64 .s16
  | .mulU64S64U32 => .mul .u64 .s64 .u32
  | .mulU64S64S32 => .mul .u64 .s64 .s32
  | .mulU64S64U64 => .mul .u64 .s64 .u64
  | .mulU64S64S64 => .mul .u64 .s64 .s64
  | .mulS64U16U16 => .mul .s64 .u16 .u16
  | .mulS64U16S16 => .mul .s64 .u16 .s16
  | .mulS64U16U32 => .mul .s64 .u16 .u32
  | .mulS64U16S32 => .mul .s64 .u16 .s32
  | .mulS64U16U64 => .mul .s64 .u16 .u64
  | .mulS64U16S64 => .mul .s64 .u16 .s64
  | .mulS64S16U16 => .mul .s64 .s16 .u16
  | .mulS64S16S16 => .mul .s64 .s16 .s16
  | .mulS64S16U32 => .mul .s64 .s16 .u32
  | .mulS64S16S32 => .mul .s64 .s16 .s32
  | .mulS64S16U64 => .mul .s64 .s16 .u64
  | .mulS64S16S64 => .mul .s64 .s16 .s64
  | .mulS64U32U16 => .mul .s64 .u32 .u16
  | .mulS64U32S16 => .mul .s64 .u32 .s16
  | .mulS64U32U32 => .mul .s64 .u32 .u32
  | .mulS64U32S32 => .mul .s64 .u32 .s32
  | .mulS64U32U64 => .mul .s64 .u32 .u64
  | .mulS64U32S64 => .mul .s64 .u32 .s64
  | .mulS64S32U16 => .mul .s64 .s32 .u16
  | .mulS64S32S16 => .mul .s64 .s32 .s16
  | .mulS64S32U32 => .mul .s64 .s32 .u32
  | .mulS64S32S32 => .mul .s64 .s32 .s32
  | .mulS64S32U64 => .mul .s64 .s32 .u64
  | .mulS64S32S64 => .mul .s64 .s32 .s64
  | .mulS64U64U16 => .mul .s64 .u64 .u16
  | .mulS64U64S16 => .mul .s64 .u64 .s16
  | .mulS64U64U32 => .mul .s64 .u64 .u32
  | .mulS64U64S32 => .mul .s64 .u64 .s32
  | .mulS64U64U64 => .mul .s64 .u64 .u64
  | .mulS64U64S64 => .mul .s64 .u64 .s64
  | .mulS64S64U16 => .mul .s64 .s64 .u16
  | .mulS64S64S16 => .mul .s64 .s64 .s16
  | .mulS64S64U32 => .mul .s64 .s64 .u32
  | .mulS64S64S32 => .mul .s64 .s64 .s32
  | .mulS64S64U64 => .mul .s64 .s64 .u64
  | .mulS64S64S64 => .mul .s64 .s64 .s64
  | .mulwU32U32 => .mulw .u32 .u32
  | .mulwU32S32 => .mulw .u32 .s32
  | .mulwS32U32 => .mulw .s32 .u32
  | .mulwS32S32 => .mulw .s32 .s32
  | .muldivU32U32U32U16 => .muldiv .u32 .u32 .u32 .u16
  | .muldivU32U32U32S16 => .muldiv .u32 .u32 .u32 .s16
  | .muldivU32U32U32U32 => .muldiv .u32 .u32 .u32 .u32
  | .muldivU32U32U32S32 => .muldiv .u32 .u32 .u32 .s32
  | .muldivU32U32S32U16 => .muldiv .u32 .u32 .s32 .u16
  | .muldivU32U32S32S16 => .muldiv .u32 .u32 .s32 .s16
  | .muldivU32U32S32U32 => .muldiv .u32 .u32 .s32 .u32
  | .muldivU32U32S32S32 => .muldiv .u32 .u32 .s32 .s32
  | .muldivU32S32U32U16 => .muldiv .u32 .s32 .u32 .u16
  | .muldivU32S32U32S16 => .muldiv .u32 .s32 .u32 .s16
  | .muldivU32S32U32U32 => .muldiv .u32 .s32 .u32 .u32
  | .muldivU32S32U32S32 => .muldiv .u32 .s32 .u32 .s32
  | .muldivU32S32S32U16 => .muldiv .u32 .s32 .s32 .u16
  | .muldivU32S32S32S16 => .muldiv .u32 .s32 .s32 .s16
  | .muldivU32S32S32U32 => .muldiv .u32 .s32 .s32 .u32
  | .muldivU32S32S32S32 => .muldiv .u32 .s32 .s32 .s32
  | .muldivS32U32U32U16 => .muldiv .s32 .u32 .u32 .u16
  | .muldivS32U32U32S16 => .muldiv .s32 .u32 .u32 .s16
  | .muldivS32U32U32U32 => .muldiv .s32 .u32 .u32 .u32
  | .muldivS32U32U32S32 => .muldiv .s32 .u32 .u32 .s32
  | .muldivS32U32S32U16 => .muldiv .s32 .u32 .s32 .u16
  | .muldivS32U32S32S16 => .muldiv .s32 .u32 .s32 .s16
  | .muldivS32U32S32U32 => .muldiv .s32 .u32 .s32 .u32
  | .muldivS32U32S32S32 => .muldiv .s32 .u32 .s32 .s32
  | .muldivS32S32U32U16 => .muldiv .s32 .s32 .u32 .u16
  | .muldivS32S32U32S16 => .muldiv .s32 .s32 .u32 .s16
  | .muldivS32S32U32U32 => .muldiv .s32 .s32 .u32 .u32
  | .muldivS32S32U32S32 => .muldiv .s32 .s32 .u32 .s32
  | .muldivS32S32S32U16 => .muldiv .s32 .s32 .s32 .u16
  | .muldivS32S32S32S16 => .muldiv .s32 .s32 .s32 .s16
  | .muldivS32S32S32U32 => .muldiv .s32 .s32 .s32 .u32
  | .muldivS32S32S32S32 => .muldiv .s32 .s32 .s32 .s32
  | .limU16U16 => .lim .u16 .u16
  | .limU16S16 => .lim .u16 .s16
  | .limU16U32 => .lim .u16 .u32
  | .limU16S32 => .lim .u16 .s32
  | .limU16U64 => .lim .u16 .u64
  | .limU16S64 => .lim .u16 .s64
  | .limS16U16 => .lim .s16 .u16
  | .limS16S16 => .lim .s16 .s16
  | .limS16U32 => .lim .s16 .u32
  | .limS16S32 => .lim .s16 .s32
  | .limS16U64 => .lim .s16 .u64
  | .limS16S64 => .lim .s16 .s64
  | .limU32U16 => .lim .u32 .u16
  | .limU32S16 => .lim .u32 .s16
  | .limU32U32 => .lim .u32 .u32
  | .limU32S32 => .lim .u32 .s32
  | .limU32U64 => .lim .u32 .u64
  | .limU32S64 => .lim .u32 .s64
  | .limS32U16 => .lim .s32 .u16
  | .limS32S16 => .lim .s32 .s16
  | .limS32U32 => .lim .s32 .u32
  | .limS32S32 => .lim .s32 .s32
  | .limS32U64 => .lim .s32 .u64
  | .limS32S64 => .lim .s32 .s64
  | .limU64U16 => .lim .u64 .u16
  | .limU64S16 => .lim .u64 .s16
  | .limU64U32 => .lim .u64 .u32
  | .limU64S32 => .lim .u64 .s32
  | .limU64U64 => .lim .u64 .u64
  | .limU64S64 => .lim .u64 .s64
  | .limS64U16 => .lim .s64 .u16
  | .limS64S16 => .lim .s64 .s16
  | .limS64U32 => .lim .s64 .u32
  | .limS64S32 => .lim .s64 .s32
  | .limS64U64 => .lim .s64 .u64
  | .limS64S64 => .lim .s64 .s64
  | .dsearchU16 => .dsearch .u16
  | .dsearchS16 => .dsearch .s16
  | .curveU16 => .curve .u16
  | .curveS16 => .curve .s16
  | .mapU16 => .map .u16
  | .mapS16 => .map .s16
  | .mapgU16 => .mapg .u16
  | .mapgS16 => .mapg .s16
  | .savgU16 => .savg .u16
  | .savgS16 => .savg .s16
  | .deb => .deb
  | .tstart => .tstart
  | .telapsed => .telapsed
  | .tisstopped => .tisstopped
  | .tstop => .tstop
  | .crc8 => .crc8

end Sys2Proof
end

