-- ==== Sys2Proof/Decode.lean ====
section
/-! DEFINITION. The decoder of command words, total on every 32-bit word and rejecting by name (30_encoding R80 to R84,
R87), and after it the encoder, written from the same tables (R80 to R82, R89). -/

namespace Sys2Proof

/-- Why a word is no legal command (30_encoding R87 lists the reasons). -/
inductive DecodeError where
  /-- a bit of 31:24 is set -/
  | reservedBits
  /-- OP is none of R83's codes -/
  | unassignedOp
  /-- a type field holds a code 7 to 15 (R81) -/
  | reservedType
  /-- a type field that the operation needs holds 0, NONE -/
  | missingType
  /-- a type field that the operation does not use is not 0 -/
  | unusedField
  /-- each field holds a type, but the operation does not admit these (R82) -/
  | notAdmitted
  deriving DecidableEq, Repr

/-! ## The fields of a word (30_encoding R80) -/

/-- OP, bits 7:0. -/
def opField (w : BitVec 32) : BitVec 8 := w.extractLsb' 0 8
/-- AT, bits 11:8. -/
def aField (w : BitVec 32) : BitVec 4 := w.extractLsb' 8 4
/-- BT, bits 15:12. -/
def bField (w : BitVec 32) : BitVec 4 := w.extractLsb' 12 4
/-- CT, bits 19:16. -/
def cField (w : BitVec 32) : BitVec 4 := w.extractLsb' 16 4
/-- RT, bits 23:20. -/
def rField (w : BitVec 32) : BitVec 4 := w.extractLsb' 20 4
/-- The reserved bits 31:24. -/
def reservedField (w : BitVec 32) : BitVec 8 := w.extractLsb' 24 8

/-! ## Type codes (30_encoding R81) -/

/-- The type a code stands for; 0 and 7 to 15 stand for none. -/
def typeOfCode (c : BitVec 4) : Except DecodeError Ty :=
  match c.toNat with
  | 0 => .error .missingType
  | 1 => .ok .u16
  | 2 => .ok .s16
  | 3 => .ok .u32
  | 4 => .ok .s32
  | 5 => .ok .u64
  | 6 => .ok .s64
  | _ => .error .reservedType

/-- The code of a type. -/
def codeOfType : Ty → BitVec 4
  | .u16 => 1
  | .s16 => 2
  | .u32 => 3
  | .s32 => 4
  | .u64 => 5
  | .s64 => 6

/-- The element type a type stands for in AT of a table or record operation; the wider types stand for none. -/
def elemOfType : Ty → Except DecodeError Elem
  | .u16 => .ok .u16
  | .s16 => .ok .s16
  | _ => .error .notAdmitted

/-! ## Which combinations exist (30_encoding R82; opcode_table.json) -/

/-- The DIV commands by numerator, divisor and result type. -/
def divOf : Ty → Ty → Ty → Option Instr
  | .u16, .u16, .u16 => some .divU16U16U16
  | .u16, .u16, .s16 => some .divU16U16S16
  | .u16, .u16, .u32 => some .divU16U16U32
  | .u16, .u16, .s32 => some .divU16U16S32
  | .u16, .s16, .u16 => some .divU16S16U16
  | .u16, .s16, .s16 => some .divU16S16S16
  | .u16, .s16, .u32 => some .divU16S16U32
  | .u16, .s16, .s32 => some .divU16S16S32
  | .u16, .u32, .u16 => some .divU16U32U16
  | .u16, .u32, .s16 => some .divU16U32S16
  | .u16, .u32, .u32 => some .divU16U32U32
  | .u16, .u32, .s32 => some .divU16U32S32
  | .u16, .s32, .u16 => some .divU16S32U16
  | .u16, .s32, .s16 => some .divU16S32S16
  | .u16, .s32, .u32 => some .divU16S32U32
  | .u16, .s32, .s32 => some .divU16S32S32
  | .s16, .u16, .u16 => some .divS16U16U16
  | .s16, .u16, .s16 => some .divS16U16S16
  | .s16, .u16, .u32 => some .divS16U16U32
  | .s16, .u16, .s32 => some .divS16U16S32
  | .s16, .s16, .u16 => some .divS16S16U16
  | .s16, .s16, .s16 => some .divS16S16S16
  | .s16, .s16, .u32 => some .divS16S16U32
  | .s16, .s16, .s32 => some .divS16S16S32
  | .s16, .u32, .u16 => some .divS16U32U16
  | .s16, .u32, .s16 => some .divS16U32S16
  | .s16, .u32, .u32 => some .divS16U32U32
  | .s16, .u32, .s32 => some .divS16U32S32
  | .s16, .s32, .u16 => some .divS16S32U16
  | .s16, .s32, .s16 => some .divS16S32S16
  | .s16, .s32, .u32 => some .divS16S32U32
  | .s16, .s32, .s32 => some .divS16S32S32
  | .u32, .u16, .u16 => some .divU32U16U16
  | .u32, .u16, .s16 => some .divU32U16S16
  | .u32, .u16, .u32 => some .divU32U16U32
  | .u32, .u16, .s32 => some .divU32U16S32
  | .u32, .s16, .u16 => some .divU32S16U16
  | .u32, .s16, .s16 => some .divU32S16S16
  | .u32, .s16, .u32 => some .divU32S16U32
  | .u32, .s16, .s32 => some .divU32S16S32
  | .u32, .u32, .u16 => some .divU32U32U16
  | .u32, .u32, .s16 => some .divU32U32S16
  | .u32, .u32, .u32 => some .divU32U32U32
  | .u32, .u32, .s32 => some .divU32U32S32
  | .u32, .s32, .u16 => some .divU32S32U16
  | .u32, .s32, .s16 => some .divU32S32S16
  | .u32, .s32, .u32 => some .divU32S32U32
  | .u32, .s32, .s32 => some .divU32S32S32
  | .s32, .u16, .u16 => some .divS32U16U16
  | .s32, .u16, .s16 => some .divS32U16S16
  | .s32, .u16, .u32 => some .divS32U16U32
  | .s32, .u16, .s32 => some .divS32U16S32
  | .s32, .s16, .u16 => some .divS32S16U16
  | .s32, .s16, .s16 => some .divS32S16S16
  | .s32, .s16, .u32 => some .divS32S16U32
  | .s32, .s16, .s32 => some .divS32S16S32
  | .s32, .u32, .u16 => some .divS32U32U16
  | .s32, .u32, .s16 => some .divS32U32S16
  | .s32, .u32, .u32 => some .divS32U32U32
  | .s32, .u32, .s32 => some .divS32U32S32
  | .s32, .s32, .u16 => some .divS32S32U16
  | .s32, .s32, .s16 => some .divS32S32S16
  | .s32, .s32, .u32 => some .divS32S32U32
  | .s32, .s32, .s32 => some .divS32S32S32
  | .u64, .u32, .u32 => some .divU64U32U32
  | .u64, .u32, .s32 => some .divU64U32S32
  | .u64, .s32, .u32 => some .divU64S32U32
  | .u64, .s32, .s32 => some .divU64S32S32
  | .s64, .u32, .u32 => some .divS64U32U32
  | .s64, .u32, .s32 => some .divS64U32S32
  | .s64, .s32, .u32 => some .divS64S32U32
  | .s64, .s32, .s32 => some .divS64S32S32
  | _, _, _ => none

/-- The MUL commands by operand and result types. -/
def mulOf : Ty → Ty → Ty → Option Instr
  | .u16, .u16, .u16 => some .mulU16U16U16
  | .u16, .u16, .s16 => some .mulU16U16S16
  | .u16, .s16, .u16 => some .mulU16S16U16
  | .u16, .s16, .s16 => some .mulU16S16S16
  | .u16, .u32, .u16 => some .mulU16U32U16
  | .u16, .u32, .s16 => some .mulU16U32S16
  | .u16, .u32, .u32 => some .mulU16U32U32
  | .u16, .u32, .s32 => some .mulU16U32S32
  | .u16, .s32, .u16 => some .mulU16S32U16
  | .u16, .s32, .s16 => some .mulU16S32S16
  | .u16, .s32, .u32 => some .mulU16S32U32
  | .u16, .s32, .s32 => some .mulU16S32S32
  | .u16, .u64, .u16 => some .mulU16U64U16
  | .u16, .u64, .s16 => some .mulU16U64S16
  | .u16, .u64, .u32 => some .mulU16U64U32
  | .u16, .u64, .s32 => some .mulU16U64S32
  | .u16, .u64, .u64 => some .mulU16U64U64
  | .u16, .u64, .s64 => some .mulU16U64S64
  | .u16, .s64, .u16 => some .mulU16S64U16
  | .u16, .s64, .s16 => some .mulU16S64S16
  | .u16, .s64, .u32 => some .mulU16S64U32
  | .u16, .s64, .s32 => some .mulU16S64S32
  | .u16, .s64, .u64 => some .mulU16S64U64
  | .u16, .s64, .s64 => some .mulU16S64S64
  | .s16, .u16, .u16 => some .mulS16U16U16
  | .s16, .u16, .s16 => some .mulS16U16S16
  | .s16, .s16, .u16 => some .mulS16S16U16
  | .s16, .s16, .s16 => some .mulS16S16S16
  | .s16, .u32, .u16 => some .mulS16U32U16
  | .s16, .u32, .s16 => some .mulS16U32S16
  | .s16, .u32, .u32 => some .mulS16U32U32
  | .s16, .u32, .s32 => some .mulS16U32S32
  | .s16, .s32, .u16 => some .mulS16S32U16
  | .s16, .s32, .s16 => some .mulS16S32S16
  | .s16, .s32, .u32 => some .mulS16S32U32
  | .s16, .s32, .s32 => some .mulS16S32S32
  | .s16, .u64, .u16 => some .mulS16U64U16
  | .s16, .u64, .s16 => some .mulS16U64S16
  | .s16, .u64, .u32 => some .mulS16U64U32
  | .s16, .u64, .s32 => some .mulS16U64S32
  | .s16, .u64, .u64 => some .mulS16U64U64
  | .s16, .u64, .s64 => some .mulS16U64S64
  | .s16, .s64, .u16 => some .mulS16S64U16
  | .s16, .s64, .s16 => some .mulS16S64S16
  | .s16, .s64, .u32 => some .mulS16S64U32
  | .s16, .s64, .s32 => some .mulS16S64S32
  | .s16, .s64, .u64 => some .mulS16S64U64
  | .s16, .s64, .s64 => some .mulS16S64S64
  | .u32, .u16, .u16 => some .mulU32U16U16
  | .u32, .u16, .s16 => some .mulU32U16S16
  | .u32, .u16, .u32 => some .mulU32U16U32
  | .u32, .u16, .s32 => some .mulU32U16S32
  | .u32, .s16, .u16 => some .mulU32S16U16
  | .u32, .s16, .s16 => some .mulU32S16S16
  | .u32, .s16, .u32 => some .mulU32S16U32
  | .u32, .s16, .s32 => some .mulU32S16S32
  | .u32, .u32, .u16 => some .mulU32U32U16
  | .u32, .u32, .s16 => some .mulU32U32S16
  | .u32, .u32, .u32 => some .mulU32U32U32
  | .u32, .u32, .s32 => some .mulU32U32S32
  | .u32, .s32, .u16 => some .mulU32S32U16
  | .u32, .s32, .s16 => some .mulU32S32S16
  | .u32, .s32, .u32 => some .mulU32S32U32
  | .u32, .s32, .s32 => some .mulU32S32S32
  | .u32, .u64, .u16 => some .mulU32U64U16
  | .u32, .u64, .s16 => some .mulU32U64S16
  | .u32, .u64, .u32 => some .mulU32U64U32
  | .u32, .u64, .s32 => some .mulU32U64S32
  | .u32, .u64, .u64 => some .mulU32U64U64
  | .u32, .u64, .s64 => some .mulU32U64S64
  | .u32, .s64, .u16 => some .mulU32S64U16
  | .u32, .s64, .s16 => some .mulU32S64S16
  | .u32, .s64, .u32 => some .mulU32S64U32
  | .u32, .s64, .s32 => some .mulU32S64S32
  | .u32, .s64, .u64 => some .mulU32S64U64
  | .u32, .s64, .s64 => some .mulU32S64S64
  | .s32, .u16, .u16 => some .mulS32U16U16
  | .s32, .u16, .s16 => some .mulS32U16S16
  | .s32, .u16, .u32 => some .mulS32U16U32
  | .s32, .u16, .s32 => some .mulS32U16S32
  | .s32, .s16, .u16 => some .mulS32S16U16
  | .s32, .s16, .s16 => some .mulS32S16S16
  | .s32, .s16, .u32 => some .mulS32S16U32
  | .s32, .s16, .s32 => some .mulS32S16S32
  | .s32, .u32, .u16 => some .mulS32U32U16
  | .s32, .u32, .s16 => some .mulS32U32S16
  | .s32, .u32, .u32 => some .mulS32U32U32
  | .s32, .u32, .s32 => some .mulS32U32S32
  | .s32, .s32, .u16 => some .mulS32S32U16
  | .s32, .s32, .s16 => some .mulS32S32S16
  | .s32, .s32, .u32 => some .mulS32S32U32
  | .s32, .s32, .s32 => some .mulS32S32S32
  | .s32, .u64, .u16 => some .mulS32U64U16
  | .s32, .u64, .s16 => some .mulS32U64S16
  | .s32, .u64, .u32 => some .mulS32U64U32
  | .s32, .u64, .s32 => some .mulS32U64S32
  | .s32, .u64, .u64 => some .mulS32U64U64
  | .s32, .u64, .s64 => some .mulS32U64S64
  | .s32, .s64, .u16 => some .mulS32S64U16
  | .s32, .s64, .s16 => some .mulS32S64S16
  | .s32, .s64, .u32 => some .mulS32S64U32
  | .s32, .s64, .s32 => some .mulS32S64S32
  | .s32, .s64, .u64 => some .mulS32S64U64
  | .s32, .s64, .s64 => some .mulS32S64S64
  | .u64, .u16, .u16 => some .mulU64U16U16
  | .u64, .u16, .s16 => some .mulU64U16S16
  | .u64, .u16, .u32 => some .mulU64U16U32
  | .u64, .u16, .s32 => some .mulU64U16S32
  | .u64, .u16, .u64 => some .mulU64U16U64
  | .u64, .u16, .s64 => some .mulU64U16S64
  | .u64, .s16, .u16 => some .mulU64S16U16
  | .u64, .s16, .s16 => some .mulU64S16S16
  | .u64, .s16, .u32 => some .mulU64S16U32
  | .u64, .s16, .s32 => some .mulU64S16S32
  | .u64, .s16, .u64 => some .mulU64S16U64
  | .u64, .s16, .s64 => some .mulU64S16S64
  | .u64, .u32, .u16 => some .mulU64U32U16
  | .u64, .u32, .s16 => some .mulU64U32S16
  | .u64, .u32, .u32 => some .mulU64U32U32
  | .u64, .u32, .s32 => some .mulU64U32S32
  | .u64, .u32, .u64 => some .mulU64U32U64
  | .u64, .u32, .s64 => some .mulU64U32S64
  | .u64, .s32, .u16 => some .mulU64S32U16
  | .u64, .s32, .s16 => some .mulU64S32S16
  | .u64, .s32, .u32 => some .mulU64S32U32
  | .u64, .s32, .s32 => some .mulU64S32S32
  | .u64, .s32, .u64 => some .mulU64S32U64
  | .u64, .s32, .s64 => some .mulU64S32S64
  | .u64, .u64, .u16 => some .mulU64U64U16
  | .u64, .u64, .s16 => some .mulU64U64S16
  | .u64, .u64, .u32 => some .mulU64U64U32
  | .u64, .u64, .s32 => some .mulU64U64S32
  | .u64, .u64, .u64 => some .mulU64U64U64
  | .u64, .u64, .s64 => some .mulU64U64S64
  | .u64, .s64, .u16 => some .mulU64S64U16
  | .u64, .s64, .s16 => some .mulU64S64S16
  | .u64, .s64, .u32 => some .mulU64S64U32
  | .u64, .s64, .s32 => some .mulU64S64S32
  | .u64, .s64, .u64 => some .mulU64S64U64
  | .u64, .s64, .s64 => some .mulU64S64S64
  | .s64, .u16, .u16 => some .mulS64U16U16
  | .s64, .u16, .s16 => some .mulS64U16S16
  | .s64, .u16, .u32 => some .mulS64U16U32
  | .s64, .u16, .s32 => some .mulS64U16S32
  | .s64, .u16, .u64 => some .mulS64U16U64
  | .s64, .u16, .s64 => some .mulS64U16S64
  | .s64, .s16, .u16 => some .mulS64S16U16
  | .s64, .s16, .s16 => some .mulS64S16S16
  | .s64, .s16, .u32 => some .mulS64S16U32
  | .s64, .s16, .s32 => some .mulS64S16S32
  | .s64, .s16, .u64 => some .mulS64S16U64
  | .s64, .s16, .s64 => some .mulS64S16S64
  | .s64, .u32, .u16 => some .mulS64U32U16
  | .s64, .u32, .s16 => some .mulS64U32S16
  | .s64, .u32, .u32 => some .mulS64U32U32
  | .s64, .u32, .s32 => some .mulS64U32S32
  | .s64, .u32, .u64 => some .mulS64U32U64
  | .s64, .u32, .s64 => some .mulS64U32S64
  | .s64, .s32, .u16 => some .mulS64S32U16
  | .s64, .s32, .s16 => some .mulS64S32S16
  | .s64, .s32, .u32 => some .mulS64S32U32
  | .s64, .s32, .s32 => some .mulS64S32S32
  | .s64, .s32, .u64 => some .mulS64S32U64
  | .s64, .s32, .s64 => some .mulS64S32S64
  | .s64, .u64, .u16 => some .mulS64U64U16
  | .s64, .u64, .s16 => some .mulS64U64S16
  | .s64, .u64, .u32 => some .mulS64U64U32
  | .s64, .u64, .s32 => some .mulS64U64S32
  | .s64, .u64, .u64 => some .mulS64U64U64
  | .s64, .u64, .s64 => some .mulS64U64S64
  | .s64, .s64, .u16 => some .mulS64S64U16
  | .s64, .s64, .s16 => some .mulS64S64S16
  | .s64, .s64, .u32 => some .mulS64S64U32
  | .s64, .s64, .s32 => some .mulS64S64S32
  | .s64, .s64, .u64 => some .mulS64S64U64
  | .s64, .s64, .s64 => some .mulS64S64S64
  | _, _, _ => none

/-- The MULW commands: the result type is u64 for two unsigned operands and s64 otherwise. -/
def mulwOf : Ty → Ty → Ty → Option Instr
  | .u32, .u32, .u64 => some .mulwU32U32
  | .u32, .s32, .s64 => some .mulwU32S32
  | .s32, .u32, .s64 => some .mulwS32U32
  | .s32, .s32, .s64 => some .mulwS32S32
  | _, _, _ => none

/-- The MULDIV commands by multiplicand, divisor and result types. -/
def muldivOf : Ty → Ty → Ty → Ty → Option Instr
  | .u32, .u32, .u32, .u16 => some .muldivU32U32U32U16
  | .u32, .u32, .u32, .s16 => some .muldivU32U32U32S16
  | .u32, .u32, .u32, .u32 => some .muldivU32U32U32U32
  | .u32, .u32, .u32, .s32 => some .muldivU32U32U32S32
  | .u32, .u32, .s32, .u16 => some .muldivU32U32S32U16
  | .u32, .u32, .s32, .s16 => some .muldivU32U32S32S16
  | .u32, .u32, .s32, .u32 => some .muldivU32U32S32U32
  | .u32, .u32, .s32, .s32 => some .muldivU32U32S32S32
  | .u32, .s32, .u32, .u16 => some .muldivU32S32U32U16
  | .u32, .s32, .u32, .s16 => some .muldivU32S32U32S16
  | .u32, .s32, .u32, .u32 => some .muldivU32S32U32U32
  | .u32, .s32, .u32, .s32 => some .muldivU32S32U32S32
  | .u32, .s32, .s32, .u16 => some .muldivU32S32S32U16
  | .u32, .s32, .s32, .s16 => some .muldivU32S32S32S16
  | .u32, .s32, .s32, .u32 => some .muldivU32S32S32U32
  | .u32, .s32, .s32, .s32 => some .muldivU32S32S32S32
  | .s32, .u32, .u32, .u16 => some .muldivS32U32U32U16
  | .s32, .u32, .u32, .s16 => some .muldivS32U32U32S16
  | .s32, .u32, .u32, .u32 => some .muldivS32U32U32U32
  | .s32, .u32, .u32, .s32 => some .muldivS32U32U32S32
  | .s32, .u32, .s32, .u16 => some .muldivS32U32S32U16
  | .s32, .u32, .s32, .s16 => some .muldivS32U32S32S16
  | .s32, .u32, .s32, .u32 => some .muldivS32U32S32U32
  | .s32, .u32, .s32, .s32 => some .muldivS32U32S32S32
  | .s32, .s32, .u32, .u16 => some .muldivS32S32U32U16
  | .s32, .s32, .u32, .s16 => some .muldivS32S32U32S16
  | .s32, .s32, .u32, .u32 => some .muldivS32S32U32U32
  | .s32, .s32, .u32, .s32 => some .muldivS32S32U32S32
  | .s32, .s32, .s32, .u16 => some .muldivS32S32S32U16
  | .s32, .s32, .s32, .s16 => some .muldivS32S32S32S16
  | .s32, .s32, .s32, .u32 => some .muldivS32S32S32U32
  | .s32, .s32, .s32, .s32 => some .muldivS32S32S32S32
  | _, _, _, _ => none

/-- The LIM commands: every pair of types. -/
def limOf : Ty → Ty → Instr
  | .u16, .u16 => .limU16U16
  | .u16, .s16 => .limU16S16
  | .u16, .u32 => .limU16U32
  | .u16, .s32 => .limU16S32
  | .u16, .u64 => .limU16U64
  | .u16, .s64 => .limU16S64
  | .s16, .u16 => .limS16U16
  | .s16, .s16 => .limS16S16
  | .s16, .u32 => .limS16U32
  | .s16, .s32 => .limS16S32
  | .s16, .u64 => .limS16U64
  | .s16, .s64 => .limS16S64
  | .u32, .u16 => .limU32U16
  | .u32, .s16 => .limU32S16
  | .u32, .u32 => .limU32U32
  | .u32, .s32 => .limU32S32
  | .u32, .u64 => .limU32U64
  | .u32, .s64 => .limU32S64
  | .s32, .u16 => .limS32U16
  | .s32, .s16 => .limS32S16
  | .s32, .u32 => .limS32U32
  | .s32, .s32 => .limS32S32
  | .s32, .u64 => .limS32U64
  | .s32, .s64 => .limS32S64
  | .u64, .u16 => .limU64U16
  | .u64, .s16 => .limU64S16
  | .u64, .u32 => .limU64U32
  | .u64, .s32 => .limU64S32
  | .u64, .u64 => .limU64U64
  | .u64, .s64 => .limU64S64
  | .s64, .u16 => .limS64U16
  | .s64, .s16 => .limS64S16
  | .s64, .u32 => .limS64U32
  | .s64, .s32 => .limS64S32
  | .s64, .u64 => .limS64U64
  | .s64, .s64 => .limS64S64

/-- The DSEARCH commands by element type. -/
def dsearchOf : Elem → Instr
  | .u16 => .dsearchU16
  | .s16 => .dsearchS16

/-- The CURVE commands by element type. -/
def curveOf : Elem → Instr
  | .u16 => .curveU16
  | .s16 => .curveS16

/-- The MAP commands by element type. -/
def mapOf : Elem → Instr
  | .u16 => .mapU16
  | .s16 => .mapS16

/-- The MAPG commands by element type. -/
def mapgOf : Elem → Instr
  | .u16 => .mapgU16
  | .s16 => .mapgS16

/-- The SAVG commands by element type. -/
def savgOf : Elem → Instr
  | .u16 => .savgU16
  | .s16 => .savgS16

/-! ## The decoder -/

/-- `k` where the unused field `c` is 0, as R82 requires. -/
def withUnused (c : BitVec 4) (k : Except DecodeError Instr) : Except DecodeError Instr :=
  if c = 0 then k else .error .unusedField

/-- A row of R82 that admits some combinations only. -/
def admitted : Option Instr → Except DecodeError Instr
  | some i => .ok i
  | none => .error .notAdmitted

/-- The command of a word's fields OP, AT, BT, CT and RT (30_encoding R82, R83). -/
def decodeFields (op : BitVec 8) (a b c r : BitVec 4) : Except DecodeError Instr :=
  if op = 0x01 then
    withUnused c ((typeOfCode a).bind fun nt => (typeOfCode b).bind fun dt => (typeOfCode r).bind fun rt =>
      admitted (divOf nt dt rt))
  else if op = 0x02 then
    withUnused c ((typeOfCode a).bind fun xt => (typeOfCode b).bind fun yt => (typeOfCode r).bind fun rt =>
      admitted (mulOf xt yt rt))
  else if op = 0x03 then
    withUnused c ((typeOfCode a).bind fun xt => (typeOfCode b).bind fun yt => (typeOfCode r).bind fun rt =>
      admitted (mulwOf xt yt rt))
  else if op = 0x04 then
    (typeOfCode a).bind fun xt => (typeOfCode b).bind fun yt => (typeOfCode c).bind fun zt =>
      (typeOfCode r).bind fun rt => admitted (muldivOf xt yt zt rt)
  else if op = 0x05 then
    withUnused b (withUnused c ((typeOfCode a).bind fun xt => (typeOfCode r).bind fun rt => .ok (limOf xt rt)))
  else if op = 0x10 then elemOnly dsearchOf
  else if op = 0x11 then elemOnly curveOf
  else if op = 0x12 then elemOnly mapOf
  else if op = 0x13 then elemOnly mapgOf
  else if op = 0x20 then elemOnly savgOf
  else if op = 0x21 then noTypes .deb
  else if op = 0x30 then noTypes .tstart
  else if op = 0x31 then noTypes .telapsed
  else if op = 0x32 then noTypes .tisstopped
  else if op = 0x33 then noTypes .tstop
  else if op = 0x40 then noTypes .crc8
  else .error .unassignedOp
where
  elemOnly (f : Elem → Instr) : Except DecodeError Instr :=
    withUnused b (withUnused c (withUnused r ((typeOfCode a).bind fun t => (elemOfType t).map f)))
  noTypes (i : Instr) : Except DecodeError Instr :=
    withUnused a (withUnused b (withUnused c (withUnused r (.ok i))))

/-- The command a word stands for, or why it stands for none (30_encoding R84, R87, R88). -/
def decodeWord (w : BitVec 32) : Except DecodeError Instr :=
  if reservedField w = 0 then decodeFields (opField w) (aField w) (bField w) (cField w) (rField w)
  else .error .reservedBits

/-- `legal(w)` (30_encoding R84): the decoder finds a command. -/
def legal (w : BitVec 32) : Bool :=
  match decodeWord w with
  | .ok _ => true
  | .error _ => false

/-! ## The encoder -/

/-- A word from its fields: `OP | AT << 8 | BT << 12 | CT << 16 | RT << 20` (30_encoding R80). -/
def assemble (op : BitVec 8) (a b c r : BitVec 4) : BitVec 32 :=
  0#8 ++ r ++ c ++ b ++ a ++ op

/-- The RT field of MULW: u64 for two u32 operands, else s64 (30_encoding R82). -/
def mulwResult (xt yt : Ty) : Ty :=
  if xt = .u32 ∧ yt = .u32 then .u64 else .s64

/-- The word of a form (30_encoding R80 to R82). -/
def encodeForm : Form → BitVec 32
  | .div nt dt rt => assemble 0x01 (codeOfType nt) (codeOfType dt) 0 (codeOfType rt)
  | .mul xt yt rt => assemble 0x02 (codeOfType xt) (codeOfType yt) 0 (codeOfType rt)
  | .mulw xt yt => assemble 0x03 (codeOfType xt) (codeOfType yt) 0 (codeOfType (mulwResult xt yt))
  | .muldiv xt yt zt rt => assemble 0x04 (codeOfType xt) (codeOfType yt) (codeOfType zt) (codeOfType rt)
  | .lim xt rt => assemble 0x05 (codeOfType xt) 0 0 (codeOfType rt)
  | .dsearch et => assemble 0x10 (codeOfType et.ty) 0 0 0
  | .curve et => assemble 0x11 (codeOfType et.ty) 0 0 0
  | .map et => assemble 0x12 (codeOfType et.ty) 0 0 0
  | .mapg et => assemble 0x13 (codeOfType et.ty) 0 0 0
  | .savg et => assemble 0x20 (codeOfType et.ty) 0 0 0
  | .deb => assemble 0x21 0 0 0 0
  | .tstart => assemble 0x30 0 0 0 0
  | .telapsed => assemble 0x31 0 0 0 0
  | .tisstopped => assemble 0x32 0 0 0 0
  | .tstop => assemble 0x33 0 0 0 0
  | .crc8 => assemble 0x40 0 0 0 0

/-- The word of a command. -/
def encode (i : Instr) : BitVec 32 := encodeForm i.form

/-! ## The table's bit numbering -/

/-- What the decoder reads from an instruction whose bits are `w`, numbered as opcode_table.json numbers them: one
32-bit word, bit 0 least significant (30_encoding R88: there is no second word). -/
def decodeTableWord (nbits w : Nat) : Option Instr :=
  if w % 2 ^ nbits < 2 ^ 32 then
    match decodeWord (BitVec.ofNat 32 (w % 2 ^ nbits)) with
    | .ok i => some i
    | .error _ => none
  else none

end Sys2Proof
end

