-- ==== Sys2Proof/Config.lean ====
section
/-! DEFINITION. The unit's named parameters (00_scope R8), and the free values: values the spec leaves open, constants
without a body that nothing in Lean can evaluate. -/

namespace Sys2Proof.Config

/-- P_MAP_BLEND_ROUND (00_scope R8): how the `>> 15` of the map's blend rounds (43_search_interp R187). -/
inductive BlendRound where
  | shift
  | trunc
  deriving DecidableEq, Repr

/-- The named parameters of 00_scope R8. P_LAT has no field: the model has no time (70 R330; log entry 2). -/
structure Params where
  /-- P_BASE, bits 31:8; the low eight bits are 0, since P_BASE is 256-byte aligned -/
  baseBlock : BitVec 24
  /-- P_MUL_MIXED_NEG_ZERO (41_multiplication R122) -/
  mulMixedNegZero : Bool
  /-- P_MAP_BLEND_ROUND (43_search_interp R187) -/
  mapBlendRound : BlendRound
  /-- P_DIV_NEGOVF_MAX (40_division R104) -/
  divNegovfMax : Bool
  /-- P_CRC_XOROUT (47_crc8 R262) -/
  crcXorOut : BitVec 8
  deriving DecidableEq, Repr

/-- P_BASE is OPEN (00_scope R8): the spec gives no default, and nothing is known of this one. Log entry 10. -/
opaque pBaseBlock : BitVec 24

/-- The defaults of 00_scope R8. -/
def defaults : Params :=
  { baseBlock := pBaseBlock, mulMixedNegZero := false, mapBlendRound := .shift, divNegovfMax := false, crcXorOut := 0x00 }

/-- RES after an error end is any value (60_exceptions R281). DESIGN CHOICE, safe: the draw numbered by the counter
`draws`. Log entry 5. -/
opaque freeRes : Nat → BitVec 64

/-- What a host read of RES_LO or RES_HI returns while BUSY = 1 (10_state R32). DESIGN CHOICE, safe. Log entry 6. -/
opaque freeBusyRead : Nat → BitVec 32

/-- Which of the racing writes a read sees, a bit for each (20_memory R71, 70 R322). DEDUCED, safe. Log entry 7. -/
opaque raceChoice : Nat → Nat

/-- The content of memory after a power-on is a free draw (70 R311, 93 S7): bytes written into an otherwise zero memory, so
that every content is some list. DESIGN CHOICE, safe. Log entry 4. -/
opaque powerOnCells : Nat → List (BitVec 32 × BitVec 8)

/-- What an address that memory does not list reads as. DESIGN CHOICE, safe: how memory is written down, no claim about its
content (log entry 4). -/
def unlistedByte : BitVec 8 := 0x00

end Sys2Proof.Config
end

