-- ==== Sys2Proof/Machine/Bytes.lean ====
section
/-! DEFINITION. Memory as data, its bytes, and what it holds after a power-on. -/

namespace Sys2Proof.Machine

/-- Memory: the cells whose byte differs from what an unlisted address reads as, addresses rising (20_memory R50,
70 R311). -/
abbrev Memory := List Host.Cell

/-- The byte at an address; an unlisted address reads as `Config.unlistedByte` (log entry 4). -/
def readByte : Memory → Nat → BitVec 8
  | [], _ => Config.unlistedByte
  | (b, v) :: rest, a => if a = b then v else readByte rest a

/-- The canonical list with the cell `a ↦ v` put first, or dropped where an unlisted address reads as `v`. -/
def consCell (a : Nat) (v : BitVec 8) (m : Memory) : Memory :=
  if v = Config.unlistedByte then m else (a, v) :: m

/-- Memory with the byte at `a` written, in canonical form. -/
def writeByte : Memory → Nat → BitVec 8 → Memory
  | [], a, v => consCell a v []
  | (b, w) :: rest, a, v =>
    if a = b then consCell a v rest
    else if a < b then consCell a v ((b, w) :: rest)
    else (b, w) :: writeByte rest a v

/-- What memory holds after power-on number `k`: a free draw (70 R311; log entry 4). -/
def powerOnMemory (k : Nat) : Memory :=
  (Config.powerOnCells k).foldl (fun m c => writeByte m c.1.toNat c.2) []

end Sys2Proof.Machine
end

