-- ==== Sys2Proof/Machine/State.lean ====
section
/-! DEFINITION. The state of FROST-CORE with the host's actions that act on it, the reasons a step can stop, and the
state after reset. INVENTORY.md lists each field with the rule that names it. -/

namespace Sys2Proof.Machine

/-- The values of STATUS.ERR (10_state R24, 60_exceptions R287): NONE, ILLEGAL, PRECOND, MISALIGNED, BUSERR. -/
inductive ErrCode where
  | none
  | illegal
  | precond
  | misaligned
  | busErr
  deriving DecidableEq, Repr

/-- The width of a memory access: 1, 2 or 4 bytes (20_memory R50). -/
inductive Size where
  | b1
  | b2
  | b4
  deriving DecidableEq, Repr

/-- A port access that the running command has made, with the value it carried and what memory held there just before it
(10_state R28; the old value is for a read that races with it, 20_memory R71). -/
structure Access where
  addr : Nat
  size : Size
  isWrite : Bool
  value : BitVec 32
  old : BitVec 32
  deriving DecidableEq, Repr

/-- A host access to memory made while BUSY = 1: the value it wrote (0 for a read), what memory held there just before it,
and how many port accesses the running command had made by then (20_memory R71). -/
structure Touch where
  addr : Nat
  size : Size
  isWrite : Bool
  value : BitVec 32
  old : BitVec 32
  done : Nat
  deriving DecidableEq, Repr

/-- How a region of the platform's memory map answers the unit's port (20_memory R56, R58, R59). -/
inductive RegionKind where
  /-- reads answer with a bus error -/
  | readFails
  /-- writes answer with a bus error -/
  | writeFails
  /-- reads and writes answer with a bus error -/
  | absent
  /-- a device with read side effects (R58) -/
  | device
  deriving DecidableEq, Repr

/-- A region of the platform's memory map: the addresses `lo ≤ a < hi`. -/
structure Region where
  lo : Nat
  hi : Nat
  kind : RegionKind
  deriving DecidableEq, Repr

/-- A value that a host read returned (70 R332 observes them). -/
structure HostRead where
  addr : BitVec 32
  value : BitVec 32
  deriving DecidableEq, Repr

/-- What can happen next, besides the unit's own running on (INVENTORY.md, Host interface). -/
inductive Input where
  /-- a host register write of `bytes` bytes at a bus address (10_state R21) -/
  | regWrite (addr : BitVec 32) (bytes : Nat) (value : BitVec 32)
  /-- a host register read of `bytes` bytes at a bus address -/
  | regRead (addr : BitVec 32) (bytes : Nat)
  /-- a memory write of the host or another bus master (30_encoding R90, 20_memory R71) -/
  | memWrite (addr : BitVec 32) (size : Size) (value : BitVec 32)
  /-- a memory read of the host or another bus master -/
  | memRead (addr : BitVec 32) (size : Size)
  /-- the platform's memory map changes (20_memory R59, 60 R293) -/
  | setPlatform (regions : List Region)
  /-- reset with power kept; the draw says whether the port access in flight completes (70 R310) -/
  | reset (inFlight : Bool)
  /-- power is lost and comes back, and reset follows (60 R301, 70 R311) -/
  | powerCycle
  /-- the unit takes up to `steps` internal steps, or runs to its command's end (70 R330) -/
  | unitTurn (steps : Option Nat)
  deriving DecidableEq, Repr

/-- Why a step stops with a fault. -/
inductive Fault where
  /-- HOST_PROTOCOL, case 1 (70 R320): a host register access narrower than 32 bits or at an offset that is no multiple
  of 4, which has no defined effect. Raised by a `regWrite` or `regRead` action. Safe: nothing is claimed of what
  follows. -/
  | hostProtocol
  /-- A host memory access outside the 2^32 bytes of memory (10_state R34). Raised by a `memWrite` or `memRead` action.
  Safe. -/
  | outsideMemory
  deriving DecidableEq, Repr

/-- Why a step is refused. -/
inductive Refusal where
  /-- The instruction has no meaning in this model; no arm of exec answers it. Safe. -/
  | notModelled (mnemonic : String)
  /-- A port access to a device with read side effects: the spec asks a model to refuse such a placement of a record
  (20_memory R58). Raised by the port. Safe. -/
  | sideEffectMemory
  /-- BUSY = 1 with a latched word that is no legal command: no run reaches such a state. Raised by the unit's turn.
  Safe. Log entry 17. -/
  | noOperation
  deriving DecidableEq, Repr

/-- The state of the unit, of memory, and of what acts on them. -/
structure State where
  /-- CMD (10_state R26) -/
  cmd : BitVec 32
  /-- STATUS.BUSY, the same bit as the hidden `busy` (10_state R24, R28) -/
  busy : Bool
  /-- STATUS.ERR (10_state R24) -/
  err : ErrCode
  /-- OPA (10_state R23) -/
  opa : BitVec 64
  /-- OPB -/
  opb : BitVec 64
  /-- OPC -/
  opc : BitVec 64
  /-- RES (10_state R23, R31) -/
  res : BitVec 64
  /-- `cmd_l`, the latched command word (10_state R28) -/
  cmdL : BitVec 32
  /-- `a_l` -/
  aL : BitVec 64
  /-- `b_l` -/
  bL : BitVec 64
  /-- `c_l` -/
  cL : BitVec 64
  /-- progress of the running command: its port accesses done, oldest first (10_state R28) -/
  progress : List Access
  /-- memory (20_memory R50) -/
  mem : Memory
  /-- the named parameters (00_scope R8) -/
  params : Config.Params
  /-- the platform's memory map (20_memory R59) -/
  platform : List Region
  /-- HOST_PROTOCOL was recorded; never cleared (70 R320, R321) -/
  protocolFault : Bool
  /-- RACE was recorded; never cleared (70 R322) -/
  raceFault : Bool
  /-- the actions still to come, next first -/
  inputs : List Input
  /-- how many internal steps the present unit turn may take -/
  grant : Option Nat
  /-- the host's memory accesses while BUSY = 1 (20_memory R71) -/
  hostTouch : List Touch
  /-- the values the host's reads returned, latest first (70 R332) -/
  hostReads : List HostRead
  /-- how many free values have been drawn -/
  draws : Nat
  deriving DecidableEq, Repr

/-- The machine right after power-on and reset (10_state R35, 70 R310, R313). Memory is the draw numbered 0 (70 R311; log
entry 4). Parameters and platform: log entries 9 and 10. -/
def State.reset : State :=
  { cmd := 0, busy := false, err := .none
    opa := 0, opb := 0, opc := 0, res := 0
    cmdL := 0, aL := 0, bL := 0, cL := 0, progress := []
    mem := powerOnMemory 0, params := Config.defaults, platform := []
    protocolFault := false, raceFault := false
    inputs := [], grant := none, hostTouch := [], hostReads := [], draws := 1 }

end Sys2Proof.Machine
end

