-- ==== Sys2Proof/Machine/Operands.lean ====
section
/-! DEFINITION. Operand extraction, extension, clamping and result placement (00_scope R11 to R13, 30_encoding R85,
R86). -/

namespace Sys2Proof.Machine

/-- `clamp(v, T)`: saturation to the range of `T` (00_scope R11). -/
def clamp (v : Int) (t : Ty) : Int := max t.min (min t.max v)

/-- `val(r, T)`: the value of type `T` in the low `W(T)` bits of a register (00_scope R12). -/
def val (r : BitVec 64) (t : Ty) : Int :=
  if t.signed then (r.setWidth t.width).toInt else ((r.setWidth t.width).toNat : Int)

/-- `enc64(v)`: `v mod 2^64` as a 64-bit pattern (00_scope R12, 30_encoding R86). -/
def enc64 (v : Int) : BitVec 64 := BitVec.ofInt 64 v

/-- `tdiv(a, b)`: the quotient truncated toward zero (00_scope R13). -/
def tdiv (a b : Int) : Int := a.tdiv b

/-- `v >> 15` on a signed integer: `floor(v / 32768)` (00_scope R13). -/
def shiftRight15 (v : Int) : Int := v.fdiv 32768

/-- Bits 31:0 of an operand register, a record address or a 32-bit operand (20_memory R51, 30_encoding R85). -/
def low32 (r : BitVec 64) : BitVec 32 := r.setWidth 32

/-- A record address: bits 31:0 as an unbounded integer (20_memory R51). -/
def addrOf (r : BitVec 64) : Nat := (low32 r).toNat

/-- Bits 15:0 of an operand register: SAVG's cnt, a packed ratio (30_encoding R85). -/
def low16 (r : BitVec 64) : Nat := (r.extractLsb' 0 16).toNat

/-- Bits 31:16 of an operand register: SAVG's maxc, a packed index (30_encoding R85). -/
def high16 (r : BitVec 64) : Nat := (r.extractLsb' 16 16).toNat

/-- Bit 0 of an operand register: DEB's raw input (30_encoding R85). -/
def bit0 (r : BitVec 64) : Bool := r.getLsbD 0

/-- A halfword read as an element of type ET: `MemRead` for U16, `MemRead_s` for S16 (00_scope R14). -/
def elemVal (et : Elem) (v : BitVec 32) : Int :=
  match et with
  | .u16 => ((v.setWidth 16).toNat : Int)
  | .s16 => (v.setWidth 16).toInt

/-- A 32-bit pattern as a value of type QT: `val(sum2, QT)` of SAVG (44_sliding_average R200). -/
def queryVal (et : Elem) (v : BitVec 32) : Int :=
  match et with
  | .u16 => (v.toNat : Int)
  | .s16 => v.toInt

end Sys2Proof.Machine
end

