-- ==== Sys2Proof/Machine/Ops.lean ====
section
/-! DEFINITION. The shared operations: accesses to memory, the bus-master port with its checks (20_memory R50 to R59), the
programs that commands are (a tree of port accesses), how a program runs, and the ends of a command: the normal end
(10_state R31) and the one error end (60_exceptions R281), which is all the exception this machine takes. -/

namespace Sys2Proof.Machine

/-! ## Accesses to memory -/

/-- The bytes of an access. -/
def Size.bytes : Size → Nat
  | .b1 => 1
  | .b2 => 2
  | .b4 => 4

/-- `n` bytes from `a` as an unsigned little-endian number (20_memory R52). -/
def readLe (m : Memory) (a : Nat) : Nat → Nat
  | 0 => 0
  | n + 1 => (readByte m a).toNat + 256 * readLe m (a + 1) n

/-- The low `n` bytes of `v` stored from `a`, little-endian (20_memory R52). -/
def writeLe (m : Memory) (a : Nat) : Nat → Nat → Memory
  | 0, _ => m
  | n + 1, v => writeLe (writeByte m a (BitVec.ofNat 8 v)) (a + 1) n (v / 256)

/-- The value `MemRead(a, n)` reads (00_scope R14). -/
def loadMem (m : Memory) (a : Nat) (n : Size) : BitVec 32 := BitVec.ofNat 32 (readLe m a n.bytes)

/-- Memory after `MemWrite(a, n, v)` (00_scope R14). -/
def storeMem (m : Memory) (a : Nat) (n : Size) (v : BitVec 32) : Memory := writeLe m a n.bytes v.toNat

/-- The canonical form: addresses strictly rising, none before `from`, no cell equal to what an unlisted address reads
as. -/
def wfFrom : Nat → Memory → Bool
  | _, [] => true
  | lo, (a, v) :: rest => decide (lo ≤ a) && decide (v ≠ Config.unlistedByte) && wfFrom (a + 1) rest

/-- The canonical form of memory. -/
def Memory.wf (m : Memory) : Bool := wfFrom 0 m

/-- Every listed address is one of the 2^32 that exist (10_state R34). -/
def Memory.inSpace (m : Memory) : Bool := m.all fun c => decide (c.1 < 2 ^ 32)

/-! ## The port's checks -/

/-- Two byte ranges share a byte. -/
def overlaps (a : Nat) (n : Size) (b : Nat) (k : Size) : Bool :=
  decide (a < b + k.bytes) && decide (b < a + n.bytes)

/-- The range check of 20_memory R55. -/
def inRange (a : Nat) (n : Size) : Bool := decide (a + n.bytes ≤ 2 ^ 32)

/-- Some byte of the access lies in a region of the platform's map whose kind satisfies `p`. -/
def hitsRegion (regions : List Region) (a : Nat) (n : Size) (p : RegionKind → Bool) : Bool :=
  regions.any fun r => p r.kind && decide (a < r.hi) && decide (r.lo < a + n.bytes)

/-- A device with read side effects (20_memory R58). -/
def RegionKind.isDevice : RegionKind → Bool
  | .device => true
  | .readFails | .writeFails | .absent => false

/-- The platform answers a read here with an error (20_memory R56). -/
def RegionKind.failsRead : RegionKind → Bool
  | .readFails | .absent => true
  | .writeFails | .device => false

/-- The platform answers a write here with an error (20_memory R56). -/
def RegionKind.failsWrite : RegionKind → Bool
  | .writeFails | .absent => true
  | .readFails | .device => false

/-! ## Races (20_memory R71, 70 R322; log entry 7) -/

/-- The host's accesses while BUSY = 1 that share a byte with an access of the unit. -/
def touching (s : State) (a : Nat) (n : Size) : List Touch :=
  s.hostTouch.filter fun t => overlaps a n t.addr t.size

/-- The host's writes while BUSY = 1 that share a byte with an access of the unit. -/
def racingWrites (s : State) (a : Nat) (n : Size) : List Touch :=
  (touching s a n).filter fun t => t.isWrite

/-- A write to memory made while BUSY = 1, by the running command or by the host, with what it replaced. -/
structure BusyWrite where
  byUnit : Bool
  addr : Nat
  size : Size
  value : BitVec 32
  old : BitVec 32
  deriving DecidableEq, Repr

/-- The host's writes among its accesses. -/
def hostWrites (hs : List Touch) : List BusyWrite :=
  (hs.filter fun t => t.isWrite).map fun t =>
    { byUnit := false, addr := t.addr, size := t.size, value := t.value, old := t.old }

/-- The writes of both sides in the order they were made: before the access numbered `k` of the command come the host's
accesses that found at most `k` done. -/
def inOrder (hs : List Touch) : Nat → List Access → List BusyWrite
  | _, [] => hostWrites hs
  | k, x :: rest =>
    let later := inOrder (hs.dropWhile fun t => decide (t.done ≤ k)) (k + 1) rest
    hostWrites (hs.takeWhile fun t => decide (t.done ≤ k)) ++
      if x.isWrite then { byUnit := true, addr := x.addr, size := x.size, value := x.value, old := x.old } :: later
      else later

/-- The writes of both sides while BUSY = 1 that share a byte with a read, in the order they were made. -/
def writesOver (s : State) (a : Nat) (n : Size) : List BusyWrite :=
  (inOrder s.hostTouch 0 s.progress).filter fun w => overlaps a n w.addr w.size

/-- Memory before the writes: each taken back, the last one first. -/
def takenBack (m : Memory) (ws : List BusyWrite) : Memory := ws.foldr (fun w m => storeMem m w.addr w.size w.old) m

/-- Memory with the writes made again in their order, but that each one that is `free` is seen or not by a bit of the
choice (R71: the old or the new value of each access independently). -/
def seenAgain (free : BusyWrite → Bool) : Nat → Memory → List BusyWrite → Memory
  | _, m, [] => m
  | c, m, w :: rest =>
    if free w then seenAgain free (c / 2) (if c % 2 = 1 then storeMem m w.addr w.size w.value else m) rest
    else seenAgain free c (storeMem m w.addr w.size w.value) rest

/-- The value of a racing read: memory as it was before the writes of both sides that share a byte with it, with each free
one of them seen or not, and every other seen. -/
def racingValue (s : State) (a : Nat) (n : Size) (free : BusyWrite → Bool) : BitVec 32 :=
  let ws := writesOver s a n
  loadMem (seenAgain free (Config.raceChoice s.draws) (takenBack s.mem ws) ws) a n

/-- For a read of the unit, each of the host's writes is free. -/
def freeForUnit (w : BusyWrite) : Bool := !w.byUnit

/-- For a host read, each of the unit's writes that share a byte with it is free, and so is each host write that itself
races with one of those (70 R322: each access involved). -/
def freeForHost (ws : List BusyWrite) (w : BusyWrite) : Bool :=
  w.byUnit || ws.any fun u => u.byUnit && overlaps w.addr w.size u.addr u.size

/-- RACE is recorded (70 R322). -/
def State.recordRace (s : State) : State := { s with raceFault := true }

/-- One free value is drawn. -/
def State.drawn (s : State) : State := { s with draws := s.draws + 1 }

/-! ## The port -/

/-- What a port access ends in: the value and the state after it, a bus error, or a refusal. -/
inductive PortAnswer where
  | ok (v : BitVec 32) (s : State)
  | busError
  | refused (r : Refusal)

/-- `MemRead(a, n)` through the port: the range check (R55), the platform's answer (R56), and the value; a read that
races with the host's writes sees memory with some of them, which ones being free (R71). -/
def portRead (s : State) (a : Nat) (n : Size) : PortAnswer :=
  if ¬ inRange a n then .busError
  else if hitsRegion s.platform a n RegionKind.isDevice then .refused .sideEffectMemory
  else if hitsRegion s.platform a n RegionKind.failsRead then .busError
  else if (racingWrites s a n).isEmpty then .ok (loadMem s.mem a n) s
  else .ok (racingValue s a n freeForUnit) s.drawn.recordRace

/-- Memory replaced. -/
def State.setMem (s : State) (m : Memory) : State := { s with mem := m }

/-- `MemWrite(a, n, v)` through the port (R55, R56); a write to bytes the host touched meanwhile records RACE (R71). -/
def portWrite (s : State) (a : Nat) (n : Size) (v : BitVec 32) : PortAnswer :=
  if ¬ inRange a n then .busError
  else if hitsRegion s.platform a n RegionKind.isDevice then .refused .sideEffectMemory
  else if hitsRegion s.platform a n RegionKind.failsWrite then .busError
  else if (touching s a n).isEmpty then .ok v (s.setMem (storeMem s.mem a n v))
  else .ok v (s.setMem (storeMem s.mem a n v)).recordRace

/-! ## Programs of port accesses

A command's rule is pseudocode that reads and writes memory and ends in a result or an error. `Prog` is that pseudocode:
what it does next, as a function of the values read so far. -/

/-- A program: its result, its error (60_exceptions R281), or a port access and what follows. -/
inductive Prog (α : Type) where
  | pure (r : α)
  | fail (e : ErrCode)
  | read (a : Nat) (n : Size) (k : BitVec 32 → Prog α)
  | write (a : Nat) (n : Size) (v : BitVec 32) (k : Prog α)

/-- One program after another. -/
def Prog.bind {α β : Type} : Prog α → (α → Prog β) → Prog β
  | .pure r, f => f r
  | .fail e, _ => .fail e
  | .read a n k, f => .read a n fun v => (k v).bind f
  | .write a n v k, f => .write a n v (k.bind f)

/-- `MemRead(a, n)` (00_scope R14). -/
def memRead (a : Nat) (n : Size) : Prog (BitVec 32) := .read a n .pure

/-- `MemWrite(a, n, v)` (00_scope R14). -/
def memWrite (a : Nat) (n : Size) (v : BitVec 32) : Prog Unit := .write a n v (.pure ())

/-- `raise Error(e)` where the condition holds (60_exceptions R281). -/
def raiseIf (c : Bool) (e : ErrCode) : Prog Unit := if c then .fail e else .pure ()

/-- The alignment check of a record address (20_memory R53). -/
def checkAlign (a k : Nat) : Prog Unit := raiseIf (a % k != 0) .misaligned

/-! ## The ends of a command -/

/-- The normal end: RES takes the result, ERR stays, BUSY becomes 0 (10_state R31, 30_encoding R86). -/
def State.finish (s : State) (r : Int) : State :=
  { s with res := enc64 r, busy := false, progress := [], hostTouch := [] }

/-- `raise Error(code)`, the one error end of a command: ERR takes the code, RES any value, BUSY becomes 0, and memory
stays as the accesses made so far left it (60_exceptions R281). Nothing else is saved and control goes nowhere (R290). -/
def State.raise (s : State) (e : ErrCode) : State :=
  { s with
    err := e, res := Config.freeRes s.draws, draws := s.draws + 1, busy := false, progress := [], hostTouch := [] }

/-! ## Running a command -/

/-- One internal step taken from a grant; none where the grant is used up. -/
def spend : Option Nat → Option (Option Nat)
  | none => some none
  | some 0 => none
  | some (k + 1) => some (some k)

/-- An access of the running command, done (10_state R28). -/
def State.note (s : State) (x : Access) : State := { s with progress := s.progress ++ [x] }

/-- A command's program runs: the accesses already done are passed over with the values they carried, then each internal
step is one port access, or the command's end (70 R330). It goes on until the end or until the grant is used up. -/
def Prog.run : Prog Int → Option Nat → List Access → State → Host.Outcome State Fault Refusal
  | .pure r, g, _, s =>
    match spend g with
    | none => .next s
    | some _ => .next (s.finish r)
  | .fail e, g, _, s =>
    match spend g with
    | none => .next s
    | some _ => .next (s.raise e)
  | .read a n k, g, done, s =>
    match done with
    | x :: rest => (k x.value).run g rest s
    | [] =>
      match spend g with
      | none => .next s
      | some g' =>
        match portRead s a n with
        | .ok v s' => (k v).run g' [] (s'.note { addr := a, size := n, isWrite := false, value := v, old := v })
        | .busError => .next (s.raise .busErr)
        | .refused r => .refused r
  | .write a n v k, g, done, s =>
    match done with
    | _ :: rest => k.run g rest s
    | [] =>
      match spend g with
      | none => .next s
      | some g' =>
        match portWrite s a n v with
        | .ok _ s' => k.run g' [] (s'.note { addr := a, size := n, isWrite := true, value := v, old := loadMem s.mem a n })
        | .busError => .next (s.raise .busErr)
        | .refused r => .refused r

/-- The running command takes its unit turn: its program goes on from the accesses done, for as many internal steps as
the turn grants. -/
def runCommand (p : Prog Int) (s : State) : Host.Outcome State Fault Refusal := p.run s.grant s.progress s

/-! ## Accepting a command -/

/-- An accepted CMD write (10_state R30): CMD and the latches take the word and the operands; a legal word starts its
operation, an illegal one ends as ILLEGAL with RES unchanged (60_exceptions R282). -/
def accept (s : State) (w : BitVec 32) : State :=
  let l := { s with cmd := w, cmdL := w, aL := s.opa, bL := s.opb, cL := s.opc }
  if legal w then { l with err := .none, busy := true, progress := [], hostTouch := [] }
  else { l with err := .illegal }

end Sys2Proof.Machine
end

