-- ==== Sys2Proof/Machine/Average.lean ====
section
/-! DEFINITION. The sliding average, SAVG (44_sliding_average R200 to R205), over the record of 20_memory R67. -/

namespace Sys2Proof.Machine

/-- `(sum - old + s) mod 2^32` (R200). -/
def newSum (sum : BitVec 32) (old sample : Int) : BitVec 32 := BitVec.ofInt 32 ((sum.toNat : Int) - old + sample)

/-- The cursor after a call: back to 0 past the last slot (R200). -/
def nextCursor (c n : Nat) : Nat := if c + 1 = n then 0 else c + 1

/-- The result: the raw sample while the window fills, else the average truncated toward zero (R200, R201). -/
def averageValue (et : Elem) (cnt maxc : Nat) (sample : Int) (sum2 : BitVec 32) (n : Nat) : Int :=
  if cnt < maxc then sample else tdiv (queryVal et sum2) (n : Int)

/-- SAVG.et (R200): every read before the first write, in R200's order. -/
def savgProg (et : Elem) (s : State) : Prog Int :=
  let a := addrOf s.aL
  let sample := val s.bL et.ty
  let cnt := low16 s.cL
  let maxc := high16 s.cL
  (checkAlign a 4).bind fun _ =>
  (memRead a .b4).bind fun sum =>
  (memRead (a + 4) .b2).bind fun c =>
  (memRead (a + 6) .b2).bind fun n =>
  (raiseIf (decide (n.toNat = 0) || decide (n.toNat ≤ c.toNat)) .precond).bind fun _ =>
  (memRead (a + 8 + 2 * c.toNat) .b2).bind fun slot =>
  let sum2 := newSum sum (elemVal et slot) sample
  (memWrite a .b4 sum2).bind fun _ =>
  (memWrite (a + 8 + 2 * c.toNat) .b2 (BitVec.ofInt 32 (sample % 2 ^ 16))).bind fun _ =>
  (memWrite (a + 4) .b2 (BitVec.ofNat 32 (nextCursor c.toNat n.toNat))).bind fun _ =>
  .pure (averageValue et cnt maxc sample sum2 n.toNat)

/-- The meaning the two SAVG commands share (R200). -/
def runSavg (et : Elem) (s : State) : Host.Outcome State Fault Refusal := runCommand (savgProg et s) s

/-! ## The two SAVG commands -/

/-- SAVG.u16 (R200). -/
def execSavgU16 (s : State) : Host.Outcome State Fault Refusal := runSavg .u16 s

/-- SAVG.s16 (R200). -/
def execSavgS16 (s : State) : Host.Outcome State Fault Refusal := runSavg .s16 s

end Sys2Proof.Machine
end

