-- ==== Sys2Proof/Machine/Debounce.lean ====
section
/-! DEFINITION. Debounce, DEB (45_debounce R220 to R224), over the record of 20_memory R68. -/

namespace Sys2Proof.Machine

/-- ACCEPTED and ACC after a call (R220): raw equal to the accepted value clears the accumulator; else it grows by delta,
saturating at 2^32 - 1 (R222), and at the settle time of the pending transition raw is accepted and it clears. -/
def debounceNext (raw accepted : Bool) (acc delta tlh thl : Nat) : Bool × Nat :=
  if raw = accepted then (accepted, 0)
  else
    let sum := Nat.min (acc + delta) (2 ^ 32 - 1)
    if (if accepted then thl else tlh) ≤ sum then (raw, 0) else (accepted, sum)

/-- 1 for true, 0 for false. -/
def flagVal (b : Bool) : Nat := if b then 1 else 0

/-- DEB (R220): every read before the first write, in R220's order; both fields are always written (R223). -/
def debProg (s : State) : Prog Int :=
  let b := addrOf s.aL
  let raw := bit0 s.bL
  let delta := (low32 s.cL).toNat
  (checkAlign b 4).bind fun _ =>
  (memRead b .b4).bind fun accepted =>
  (memRead (b + 4) .b4).bind fun acc =>
  (memRead (b + 8) .b4).bind fun tlh =>
  (memRead (b + 12) .b4).bind fun thl =>
  let after := debounceNext raw (accepted != 0) acc.toNat delta tlh.toNat thl.toNat
  (memWrite b .b4 (BitVec.ofNat 32 (flagVal after.1))).bind fun _ =>
  (memWrite (b + 4) .b4 (BitVec.ofNat 32 after.2)).bind fun _ =>
  .pure (flagVal after.1 : Int)

/-- DEB's meaning (R220). -/
def runDeb (s : State) : Host.Outcome State Fault Refusal := runCommand (debProg s) s

/-! ## The command -/

/-- DEB (R220). -/
def execDeb (s : State) : Host.Outcome State Fault Refusal := runDeb s

end Sys2Proof.Machine
end

