-- ==== Sys2Proof/Machine/Mul.lean ====
section
/-! DEFINITION. Saturating multiplication, MUL (41_multiplication R120 to R124), and exact widening multiplication, MULW
(R125, R126). -/

namespace Sys2Proof.Machine

/-- The value of MUL.xt.yt.rt on X and Y (R120): the exact product clamped (R121), with the parameter
P_MUL_MIXED_NEG_ZERO of R122. -/
def multiply (p : Config.Params) (xt yt rt : Ty) (x y : Int) : Int :=
  if p.mulMixedNegZero ∧ rt.signed ∧ xt.signed ≠ yt.signed ∧ (if xt.signed then x else y) < 0 then 0
  else clamp (x * y) rt

/-- MUL.xt.yt.rt (R120): no memory access, no error. -/
def mulProg (xt yt rt : Ty) (s : State) : Prog Int :=
  .pure (multiply s.params xt yt rt (val s.aL xt) (val s.bL yt))

/-- The meaning the 176 MUL commands share. -/
def runMul (xt yt rt : Ty) (s : State) : Host.Outcome State Fault Refusal := runCommand (mulProg xt yt rt s) s

/-- MULW.xt.yt (R125): the exact product, never clamped (R126). -/
def mulwProg (xt yt : Ty) (s : State) : Prog Int := .pure (val s.aL xt * val s.bL yt)

/-- The meaning the four MULW commands share. -/
def runMulw (xt yt : Ty) (s : State) : Host.Outcome State Fault Refusal := runCommand (mulwProg xt yt s) s

/-! ## The 176 MUL commands -/

/-- MUL.u16.u16.u16 (R120). -/
def execMulU16U16U16 (s : State) : Host.Outcome State Fault Refusal := runMul .u16 .u16 .u16 s

/-- MUL.u16.u16.s16 (R120). -/
def execMulU16U16S16 (s : State) : Host.Outcome State Fault Refusal := runMul .u16 .u16 .s16 s

/-- MUL.u16.s16.u16 (R120). -/
def execMulU16S16U16 (s : State) : Host.Outcome State Fault Refusal := runMul .u16 .s16 .u16 s

/-- MUL.u16.s16.s16 (R120). -/
def execMulU16S16S16 (s : State) : Host.Outcome State Fault Refusal := runMul .u16 .s16 .s16 s

/-- MUL.u16.u32.u16 (R120). -/
def execMulU16U32U16 (s : State) : Host.Outcome State Fault Refusal := runMul .u16 .u32 .u16 s

/-- MUL.u16.u32.s16 (R120). -/
def execMulU16U32S16 (s : State) : Host.Outcome State Fault Refusal := runMul .u16 .u32 .s16 s

/-- MUL.u16.u32.u32 (R120). -/
def execMulU16U32U32 (s : State) : Host.Outcome State Fault Refusal := runMul .u16 .u32 .u32 s

/-- MUL.u16.u32.s32 (R120). -/
def execMulU16U32S32 (s : State) : Host.Outcome State Fault Refusal := runMul .u16 .u32 .s32 s

/-- MUL.u16.s32.u16 (R120). -/
def execMulU16S32U16 (s : State) : Host.Outcome State Fault Refusal := runMul .u16 .s32 .u16 s

/-- MUL.u16.s32.s16 (R120). -/
def execMulU16S32S16 (s : State) : Host.Outcome State Fault Refusal := runMul .u16 .s32 .s16 s

/-- MUL.u16.s32.u32 (R120). -/
def execMulU16S32U32 (s : State) : Host.Outcome State Fault Refusal := runMul .u16 .s32 .u32 s

/-- MUL.u16.s32.s32 (R120). -/
def execMulU16S32S32 (s : State) : Host.Outcome State Fault Refusal := runMul .u16 .s32 .s32 s

/-- MUL.u16.u64.u16 (R120). -/
def execMulU16U64U16 (s : State) : Host.Outcome State Fault Refusal := runMul .u16 .u64 .u16 s

/-- MUL.u16.u64.s16 (R120). -/
def execMulU16U64S16 (s : State) : Host.Outcome State Fault Refusal := runMul .u16 .u64 .s16 s

/-- MUL.u16.u64.u32 (R120). -/
def execMulU16U64U32 (s : State) : Host.Outcome State Fault Refusal := runMul .u16 .u64 .u32 s

/-- MUL.u16.u64.s32 (R120). -/
def execMulU16U64S32 (s : State) : Host.Outcome State Fault Refusal := runMul .u16 .u64 .s32 s

/-- MUL.u16.u64.u64 (R120). -/
def execMulU16U64U64 (s : State) : Host.Outcome State Fault Refusal := runMul .u16 .u64 .u64 s

/-- MUL.u16.u64.s64 (R120). -/
def execMulU16U64S64 (s : State) : Host.Outcome State Fault Refusal := runMul .u16 .u64 .s64 s

/-- MUL.u16.s64.u16 (R120). -/
def execMulU16S64U16 (s : State) : Host.Outcome State Fault Refusal := runMul .u16 .s64 .u16 s

/-- MUL.u16.s64.s16 (R120). -/
def execMulU16S64S16 (s : State) : Host.Outcome State Fault Refusal := runMul .u16 .s64 .s16 s

/-- MUL.u16.s64.u32 (R120). -/
def execMulU16S64U32 (s : State) : Host.Outcome State Fault Refusal := runMul .u16 .s64 .u32 s

/-- MUL.u16.s64.s32 (R120). -/
def execMulU16S64S32 (s : State) : Host.Outcome State Fault Refusal := runMul .u16 .s64 .s32 s

/-- MUL.u16.s64.u64 (R120). -/
def execMulU16S64U64 (s : State) : Host.Outcome State Fault Refusal := runMul .u16 .s64 .u64 s

/-- MUL.u16.s64.s64 (R120). -/
def execMulU16S64S64 (s : State) : Host.Outcome State Fault Refusal := runMul .u16 .s64 .s64 s

/-- MUL.s16.u16.u16 (R120). -/
def execMulS16U16U16 (s : State) : Host.Outcome State Fault Refusal := runMul .s16 .u16 .u16 s

/-- MUL.s16.u16.s16 (R120). -/
def execMulS16U16S16 (s : State) : Host.Outcome State Fault Refusal := runMul .s16 .u16 .s16 s

/-- MUL.s16.s16.u16 (R120). -/
def execMulS16S16U16 (s : State) : Host.Outcome State Fault Refusal := runMul .s16 .s16 .u16 s

/-- MUL.s16.s16.s16 (R120). -/
def execMulS16S16S16 (s : State) : Host.Outcome State Fault Refusal := runMul .s16 .s16 .s16 s

/-- MUL.s16.u32.u16 (R120). -/
def execMulS16U32U16 (s : State) : Host.Outcome State Fault Refusal := runMul .s16 .u32 .u16 s

/-- MUL.s16.u32.s16 (R120). -/
def execMulS16U32S16 (s : State) : Host.Outcome State Fault Refusal := runMul .s16 .u32 .s16 s

/-- MUL.s16.u32.u32 (R120). -/
def execMulS16U32U32 (s : State) : Host.Outcome State Fault Refusal := runMul .s16 .u32 .u32 s

/-- MUL.s16.u32.s32 (R120). -/
def execMulS16U32S32 (s : State) : Host.Outcome State Fault Refusal := runMul .s16 .u32 .s32 s

/-- MUL.s16.s32.u16 (R120). -/
def execMulS16S32U16 (s : State) : Host.Outcome State Fault Refusal := runMul .s16 .s32 .u16 s

/-- MUL.s16.s32.s16 (R120). -/
def execMulS16S32S16 (s : State) : Host.Outcome State Fault Refusal := runMul .s16 .s32 .s16 s

/-- MUL.s16.s32.u32 (R120). -/
def execMulS16S32U32 (s : State) : Host.Outcome State Fault Refusal := runMul .s16 .s32 .u32 s

/-- MUL.s16.s32.s32 (R120). -/
def execMulS16S32S32 (s : State) : Host.Outcome State Fault Refusal := runMul .s16 .s32 .s32 s

/-- MUL.s16.u64.u16 (R120). -/
def execMulS16U64U16 (s : State) : Host.Outcome State Fault Refusal := runMul .s16 .u64 .u16 s

/-- MUL.s16.u64.s16 (R120). -/
def execMulS16U64S16 (s : State) : Host.Outcome State Fault Refusal := runMul .s16 .u64 .s16 s

/-- MUL.s16.u64.u32 (R120). -/
def execMulS16U64U32 (s : State) : Host.Outcome State Fault Refusal := runMul .s16 .u64 .u32 s

/-- MUL.s16.u64.s32 (R120). -/
def execMulS16U64S32 (s : State) : Host.Outcome State Fault Refusal := runMul .s16 .u64 .s32 s

/-- MUL.s16.u64.u64 (R120). -/
def execMulS16U64U64 (s : State) : Host.Outcome State Fault Refusal := runMul .s16 .u64 .u64 s

/-- MUL.s16.u64.s64 (R120). -/
def execMulS16U64S64 (s : State) : Host.Outcome State Fault Refusal := runMul .s16 .u64 .s64 s

/-- MUL.s16.s64.u16 (R120). -/
def execMulS16S64U16 (s : State) : Host.Outcome State Fault Refusal := runMul .s16 .s64 .u16 s

/-- MUL.s16.s64.s16 (R120). -/
def execMulS16S64S16 (s : State) : Host.Outcome State Fault Refusal := runMul .s16 .s64 .s16 s

/-- MUL.s16.s64.u32 (R120). -/
def execMulS16S64U32 (s : State) : Host.Outcome State Fault Refusal := runMul .s16 .s64 .u32 s

/-- MUL.s16.s64.s32 (R120). -/
def execMulS16S64S32 (s : State) : Host.Outcome State Fault Refusal := runMul .s16 .s64 .s32 s

/-- MUL.s16.s64.u64 (R120). -/
def execMulS16S64U64 (s : State) : Host.Outcome State Fault Refusal := runMul .s16 .s64 .u64 s

/-- MUL.s16.s64.s64 (R120). -/
def execMulS16S64S64 (s : State) : Host.Outcome State Fault Refusal := runMul .s16 .s64 .s64 s

/-- MUL.u32.u16.u16 (R120). -/
def execMulU32U16U16 (s : State) : Host.Outcome State Fault Refusal := runMul .u32 .u16 .u16 s

/-- MUL.u32.u16.s16 (R120). -/
def execMulU32U16S16 (s : State) : Host.Outcome State Fault Refusal := runMul .u32 .u16 .s16 s

/-- MUL.u32.u16.u32 (R120). -/
def execMulU32U16U32 (s : State) : Host.Outcome State Fault Refusal := runMul .u32 .u16 .u32 s

/-- MUL.u32.u16.s32 (R120). -/
def execMulU32U16S32 (s : State) : Host.Outcome State Fault Refusal := runMul .u32 .u16 .s32 s

/-- MUL.u32.s16.u16 (R120). -/
def execMulU32S16U16 (s : State) : Host.Outcome State Fault Refusal := runMul .u32 .s16 .u16 s

/-- MUL.u32.s16.s16 (R120). -/
def execMulU32S16S16 (s : State) : Host.Outcome State Fault Refusal := runMul .u32 .s16 .s16 s

/-- MUL.u32.s16.u32 (R120). -/
def execMulU32S16U32 (s : State) : Host.Outcome State Fault Refusal := runMul .u32 .s16 .u32 s

/-- MUL.u32.s16.s32 (R120). -/
def execMulU32S16S32 (s : State) : Host.Outcome State Fault Refusal := runMul .u32 .s16 .s32 s

/-- MUL.u32.u32.u16 (R120). -/
def execMulU32U32U16 (s : State) : Host.Outcome State Fault Refusal := runMul .u32 .u32 .u16 s

/-- MUL.u32.u32.s16 (R120). -/
def execMulU32U32S16 (s : State) : Host.Outcome State Fault Refusal := runMul .u32 .u32 .s16 s

/-- MUL.u32.u32.u32 (R120). -/
def execMulU32U32U32 (s : State) : Host.Outcome State Fault Refusal := runMul .u32 .u32 .u32 s

/-- MUL.u32.u32.s32 (R120). -/
def execMulU32U32S32 (s : State) : Host.Outcome State Fault Refusal := runMul .u32 .u32 .s32 s

/-- MUL.u32.s32.u16 (R120). -/
def execMulU32S32U16 (s : State) : Host.Outcome State Fault Refusal := runMul .u32 .s32 .u16 s

/-- MUL.u32.s32.s16 (R120). -/
def execMulU32S32S16 (s : State) : Host.Outcome State Fault Refusal := runMul .u32 .s32 .s16 s

/-- MUL.u32.s32.u32 (R120). -/
def execMulU32S32U32 (s : State) : Host.Outcome State Fault Refusal := runMul .u32 .s32 .u32 s

/-- MUL.u32.s32.s32 (R120). -/
def execMulU32S32S32 (s : State) : Host.Outcome State Fault Refusal := runMul .u32 .s32 .s32 s

/-- MUL.u32.u64.u16 (R120). -/
def execMulU32U64U16 (s : State) : Host.Outcome State Fault Refusal := runMul .u32 .u64 .u16 s

/-- MUL.u32.u64.s16 (R120). -/
def execMulU32U64S16 (s : State) : Host.Outcome State Fault Refusal := runMul .u32 .u64 .s16 s

/-- MUL.u32.u64.u32 (R120). -/
def execMulU32U64U32 (s : State) : Host.Outcome State Fault Refusal := runMul .u32 .u64 .u32 s

/-- MUL.u32.u64.s32 (R120). -/
def execMulU32U64S32 (s : State) : Host.Outcome State Fault Refusal := runMul .u32 .u64 .s32 s

/-- MUL.u32.u64.u64 (R120). -/
def execMulU32U64U64 (s : State) : Host.Outcome State Fault Refusal := runMul .u32 .u64 .u64 s

/-- MUL.u32.u64.s64 (R120). -/
def execMulU32U64S64 (s : State) : Host.Outcome State Fault Refusal := runMul .u32 .u64 .s64 s

/-- MUL.u32.s64.u16 (R120). -/
def execMulU32S64U16 (s : State) : Host.Outcome State Fault Refusal := runMul .u32 .s64 .u16 s

/-- MUL.u32.s64.s16 (R120). -/
def execMulU32S64S16 (s : State) : Host.Outcome State Fault Refusal := runMul .u32 .s64 .s16 s

/-- MUL.u32.s64.u32 (R120). -/
def execMulU32S64U32 (s : State) : Host.Outcome State Fault Refusal := runMul .u32 .s64 .u32 s

/-- MUL.u32.s64.s32 (R120). -/
def execMulU32S64S32 (s : State) : Host.Outcome State Fault Refusal := runMul .u32 .s64 .s32 s

/-- MUL.u32.s64.u64 (R120). -/
def execMulU32S64U64 (s : State) : Host.Outcome State Fault Refusal := runMul .u32 .s64 .u64 s

/-- MUL.u32.s64.s64 (R120). -/
def execMulU32S64S64 (s : State) : Host.Outcome State Fault Refusal := runMul .u32 .s64 .s64 s

/-- MUL.s32.u16.u16 (R120). -/
def execMulS32U16U16 (s : State) : Host.Outcome State Fault Refusal := runMul .s32 .u16 .u16 s

/-- MUL.s32.u16.s16 (R120). -/
def execMulS32U16S16 (s : State) : Host.Outcome State Fault Refusal := runMul .s32 .u16 .s16 s

/-- MUL.s32.u16.u32 (R120). -/
def execMulS32U16U32 (s : State) : Host.Outcome State Fault Refusal := runMul .s32 .u16 .u32 s

/-- MUL.s32.u16.s32 (R120). -/
def execMulS32U16S32 (s : State) : Host.Outcome State Fault Refusal := runMul .s32 .u16 .s32 s

/-- MUL.s32.s16.u16 (R120). -/
def execMulS32S16U16 (s : State) : Host.Outcome State Fault Refusal := runMul .s32 .s16 .u16 s

/-- MUL.s32.s16.s16 (R120). -/
def execMulS32S16S16 (s : State) : Host.Outcome State Fault Refusal := runMul .s32 .s16 .s16 s

/-- MUL.s32.s16.u32 (R120). -/
def execMulS32S16U32 (s : State) : Host.Outcome State Fault Refusal := runMul .s32 .s16 .u32 s

/-- MUL.s32.s16.s32 (R120). -/
def execMulS32S16S32 (s : State) : Host.Outcome State Fault Refusal := runMul .s32 .s16 .s32 s

/-- MUL.s32.u32.u16 (R120). -/
def execMulS32U32U16 (s : State) : Host.Outcome State Fault Refusal := runMul .s32 .u32 .u16 s

/-- MUL.s32.u32.s16 (R120). -/
def execMulS32U32S16 (s : State) : Host.Outcome State Fault Refusal := runMul .s32 .u32 .s16 s

/-- MUL.s32.u32.u32 (R120). -/
def execMulS32U32U32 (s : State) : Host.Outcome State Fault Refusal := runMul .s32 .u32 .u32 s

/-- MUL.s32.u32.s32 (R120). -/
def execMulS32U32S32 (s : State) : Host.Outcome State Fault Refusal := runMul .s32 .u32 .s32 s

/-- MUL.s32.s32.u16 (R120). -/
def execMulS32S32U16 (s : State) : Host.Outcome State Fault Refusal := runMul .s32 .s32 .u16 s

/-- MUL.s32.s32.s16 (R120). -/
def execMulS32S32S16 (s : State) : Host.Outcome State Fault Refusal := runMul .s32 .s32 .s16 s

/-- MUL.s32.s32.u32 (R120). -/
def execMulS32S32U32 (s : State) : Host.Outcome State Fault Refusal := runMul .s32 .s32 .u32 s

/-- MUL.s32.s32.s32 (R120). -/
def execMulS32S32S32 (s : State) : Host.Outcome State Fault Refusal := runMul .s32 .s32 .s32 s

/-- MUL.s32.u64.u16 (R120). -/
def execMulS32U64U16 (s : State) : Host.Outcome State Fault Refusal := runMul .s32 .u64 .u16 s

/-- MUL.s32.u64.s16 (R120). -/
def execMulS32U64S16 (s : State) : Host.Outcome State Fault Refusal := runMul .s32 .u64 .s16 s

/-- MUL.s32.u64.u32 (R120). -/
def execMulS32U64U32 (s : State) : Host.Outcome State Fault Refusal := runMul .s32 .u64 .u32 s

/-- MUL.s32.u64.s32 (R120). -/
def execMulS32U64S32 (s : State) : Host.Outcome State Fault Refusal := runMul .s32 .u64 .s32 s

/-- MUL.s32.u64.u64 (R120). -/
def execMulS32U64U64 (s : State) : Host.Outcome State Fault Refusal := runMul .s32 .u64 .u64 s

/-- MUL.s32.u64.s64 (R120). -/
def execMulS32U64S64 (s : State) : Host.Outcome State Fault Refusal := runMul .s32 .u64 .s64 s

/-- MUL.s32.s64.u16 (R120). -/
def execMulS32S64U16 (s : State) : Host.Outcome State Fault Refusal := runMul .s32 .s64 .u16 s

/-- MUL.s32.s64.s16 (R120). -/
def execMulS32S64S16 (s : State) : Host.Outcome State Fault Refusal := runMul .s32 .s64 .s16 s

/-- MUL.s32.s64.u32 (R120). -/
def execMulS32S64U32 (s : State) : Host.Outcome State Fault Refusal := runMul .s32 .s64 .u32 s

/-- MUL.s32.s64.s32 (R120). -/
def execMulS32S64S32 (s : State) : Host.Outcome State Fault Refusal := runMul .s32 .s64 .s32 s

/-- MUL.s32.s64.u64 (R120). -/
def execMulS32S64U64 (s : State) : Host.Outcome State Fault Refusal := runMul .s32 .s64 .u64 s

/-- MUL.s32.s64.s64 (R120). -/
def execMulS32S64S64 (s : State) : Host.Outcome State Fault Refusal := runMul .s32 .s64 .s64 s

/-- MUL.u64.u16.u16 (R120). -/
def execMulU64U16U16 (s : State) : Host.Outcome State Fault Refusal := runMul .u64 .u16 .u16 s

/-- MUL.u64.u16.s16 (R120). -/
def execMulU64U16S16 (s : State) : Host.Outcome State Fault Refusal := runMul .u64 .u16 .s16 s

/-- MUL.u64.u16.u32 (R120). -/
def execMulU64U16U32 (s : State) : Host.Outcome State Fault Refusal := runMul .u64 .u16 .u32 s

/-- MUL.u64.u16.s32 (R120). -/
def execMulU64U16S32 (s : State) : Host.Outcome State Fault Refusal := runMul .u64 .u16 .s32 s

/-- MUL.u64.u16.u64 (R120). -/
def execMulU64U16U64 (s : State) : Host.Outcome State Fault Refusal := runMul .u64 .u16 .u64 s

/-- MUL.u64.u16.s64 (R120). -/
def execMulU64U16S64 (s : State) : Host.Outcome State Fault Refusal := runMul .u64 .u16 .s64 s

/-- MUL.u64.s16.u16 (R120). -/
def execMulU64S16U16 (s : State) : Host.Outcome State Fault Refusal := runMul .u64 .s16 .u16 s

/-- MUL.u64.s16.s16 (R120). -/
def execMulU64S16S16 (s : State) : Host.Outcome State Fault Refusal := runMul .u64 .s16 .s16 s

/-- MUL.u64.s16.u32 (R120). -/
def execMulU64S16U32 (s : State) : Host.Outcome State Fault Refusal := runMul .u64 .s16 .u32 s

/-- MUL.u64.s16.s32 (R120). -/
def execMulU64S16S32 (s : State) : Host.Outcome State Fault Refusal := runMul .u64 .s16 .s32 s

/-- MUL.u64.s16.u64 (R120). -/
def execMulU64S16U64 (s : State) : Host.Outcome State Fault Refusal := runMul .u64 .s16 .u64 s

/-- MUL.u64.s16.s64 (R120). -/
def execMulU64S16S64 (s : State) : Host.Outcome State Fault Refusal := runMul .u64 .s16 .s64 s

/-- MUL.u64.u32.u16 (R120). -/
def execMulU64U32U16 (s : State) : Host.Outcome State Fault Refusal := runMul .u64 .u32 .u16 s

/-- MUL.u64.u32.s16 (R120). -/
def execMulU64U32S16 (s : State) : Host.Outcome State Fault Refusal := runMul .u64 .u32 .s16 s

/-- MUL.u64.u32.u32 (R120). -/
def execMulU64U32U32 (s : State) : Host.Outcome State Fault Refusal := runMul .u64 .u32 .u32 s

/-- MUL.u64.u32.s32 (R120). -/
def execMulU64U32S32 (s : State) : Host.Outcome State Fault Refusal := runMul .u64 .u32 .s32 s

/-- MUL.u64.u32.u64 (R120). -/
def execMulU64U32U64 (s : State) : Host.Outcome State Fault Refusal := runMul .u64 .u32 .u64 s

/-- MUL.u64.u32.s64 (R120). -/
def execMulU64U32S64 (s : State) : Host.Outcome State Fault Refusal := runMul .u64 .u32 .s64 s

/-- MUL.u64.s32.u16 (R120). -/
def execMulU64S32U16 (s : State) : Host.Outcome State Fault Refusal := runMul .u64 .s32 .u16 s

/-- MUL.u64.s32.s16 (R120). -/
def execMulU64S32S16 (s : State) : Host.Outcome State Fault Refusal := runMul .u64 .s32 .s16 s

/-- MUL.u64.s32.u32 (R120). -/
def execMulU64S32U32 (s : State) : Host.Outcome State Fault Refusal := runMul .u64 .s32 .u32 s

/-- MUL.u64.s32.s32 (R120). -/
def execMulU64S32S32 (s : State) : Host.Outcome State Fault Refusal := runMul .u64 .s32 .s32 s

/-- MUL.u64.s32.u64 (R120). -/
def execMulU64S32U64 (s : State) : Host.Outcome State Fault Refusal := runMul .u64 .s32 .u64 s

/-- MUL.u64.s32.s64 (R120). -/
def execMulU64S32S64 (s : State) : Host.Outcome State Fault Refusal := runMul .u64 .s32 .s64 s

/-- MUL.u64.u64.u16 (R120). -/
def execMulU64U64U16 (s : State) : Host.Outcome State Fault Refusal := runMul .u64 .u64 .u16 s

/-- MUL.u64.u64.s16 (R120). -/
def execMulU64U64S16 (s : State) : Host.Outcome State Fault Refusal := runMul .u64 .u64 .s16 s

/-- MUL.u64.u64.u32 (R120). -/
def execMulU64U64U32 (s : State) : Host.Outcome State Fault Refusal := runMul .u64 .u64 .u32 s

/-- MUL.u64.u64.s32 (R120). -/
def execMulU64U64S32 (s : State) : Host.Outcome State Fault Refusal := runMul .u64 .u64 .s32 s

/-- MUL.u64.u64.u64 (R120). -/
def execMulU64U64U64 (s : State) : Host.Outcome State Fault Refusal := runMul .u64 .u64 .u64 s

/-- MUL.u64.u64.s64 (R120). -/
def execMulU64U64S64 (s : State) : Host.Outcome State Fault Refusal := runMul .u64 .u64 .s64 s

/-- MUL.u64.s64.u16 (R120). -/
def execMulU64S64U16 (s : State) : Host.Outcome State Fault Refusal := runMul .u64 .s64 .u16 s

/-- MUL.u64.s64.s16 (R120). -/
def execMulU64S64S16 (s : State) : Host.Outcome State Fault Refusal := runMul .u64 .s64 .s16 s

/-- MUL.u64.s64.u32 (R120). -/
def execMulU64S64U32 (s : State) : Host.Outcome State Fault Refusal := runMul .u64 .s64 .u32 s

/-- MUL.u64.s64.s32 (R120). -/
def execMulU64S64S32 (s : State) : Host.Outcome State Fault Refusal := runMul .u64 .s64 .s32 s

/-- MUL.u64.s64.u64 (R120). -/
def execMulU64S64U64 (s : State) : Host.Outcome State Fault Refusal := runMul .u64 .s64 .u64 s

/-- MUL.u64.s64.s64 (R120). -/
def execMulU64S64S64 (s : State) : Host.Outcome State Fault Refusal := runMul .u64 .s64 .s64 s

/-- MUL.s64.u16.u16 (R120). -/
def execMulS64U16U16 (s : State) : Host.Outcome State Fault Refusal := runMul .s64 .u16 .u16 s

/-- MUL.s64.u16.s16 (R120). -/
def execMulS64U16S16 (s : State) : Host.Outcome State Fault Refusal := runMul .s64 .u16 .s16 s

/-- MUL.s64.u16.u32 (R120). -/
def execMulS64U16U32 (s : State) : Host.Outcome State Fault Refusal := runMul .s64 .u16 .u32 s

/-- MUL.s64.u16.s32 (R120). -/
def execMulS64U16S32 (s : State) : Host.Outcome State Fault Refusal := runMul .s64 .u16 .s32 s

/-- MUL.s64.u16.u64 (R120). -/
def execMulS64U16U64 (s : State) : Host.Outcome State Fault Refusal := runMul .s64 .u16 .u64 s

/-- MUL.s64.u16.s64 (R120). -/
def execMulS64U16S64 (s : State) : Host.Outcome State Fault Refusal := runMul .s64 .u16 .s64 s

/-- MUL.s64.s16.u16 (R120). -/
def execMulS64S16U16 (s : State) : Host.Outcome State Fault Refusal := runMul .s64 .s16 .u16 s

/-- MUL.s64.s16.s16 (R120). -/
def execMulS64S16S16 (s : State) : Host.Outcome State Fault Refusal := runMul .s64 .s16 .s16 s

/-- MUL.s64.s16.u32 (R120). -/
def execMulS64S16U32 (s : State) : Host.Outcome State Fault Refusal := runMul .s64 .s16 .u32 s

/-- MUL.s64.s16.s32 (R120). -/
def execMulS64S16S32 (s : State) : Host.Outcome State Fault Refusal := runMul .s64 .s16 .s32 s

/-- MUL.s64.s16.u64 (R120). -/
def execMulS64S16U64 (s : State) : Host.Outcome State Fault Refusal := runMul .s64 .s16 .u64 s

/-- MUL.s64.s16.s64 (R120). -/
def execMulS64S16S64 (s : State) : Host.Outcome State Fault Refusal := runMul .s64 .s16 .s64 s

/-- MUL.s64.u32.u16 (R120). -/
def execMulS64U32U16 (s : State) : Host.Outcome State Fault Refusal := runMul .s64 .u32 .u16 s

/-- MUL.s64.u32.s16 (R120). -/
def execMulS64U32S16 (s : State) : Host.Outcome State Fault Refusal := runMul .s64 .u32 .s16 s

/-- MUL.s64.u32.u32 (R120). -/
def execMulS64U32U32 (s : State) : Host.Outcome State Fault Refusal := runMul .s64 .u32 .u32 s

/-- MUL.s64.u32.s32 (R120). -/
def execMulS64U32S32 (s : State) : Host.Outcome State Fault Refusal := runMul .s64 .u32 .s32 s

/-- MUL.s64.u32.u64 (R120). -/
def execMulS64U32U64 (s : State) : Host.Outcome State Fault Refusal := runMul .s64 .u32 .u64 s

/-- MUL.s64.u32.s64 (R120). -/
def execMulS64U32S64 (s : State) : Host.Outcome State Fault Refusal := runMul .s64 .u32 .s64 s

/-- MUL.s64.s32.u16 (R120). -/
def execMulS64S32U16 (s : State) : Host.Outcome State Fault Refusal := runMul .s64 .s32 .u16 s

/-- MUL.s64.s32.s16 (R120). -/
def execMulS64S32S16 (s : State) : Host.Outcome State Fault Refusal := runMul .s64 .s32 .s16 s

/-- MUL.s64.s32.u32 (R120). -/
def execMulS64S32U32 (s : State) : Host.Outcome State Fault Refusal := runMul .s64 .s32 .u32 s

/-- MUL.s64.s32.s32 (R120). -/
def execMulS64S32S32 (s : State) : Host.Outcome State Fault Refusal := runMul .s64 .s32 .s32 s

/-- MUL.s64.s32.u64 (R120). -/
def execMulS64S32U64 (s : State) : Host.Outcome State Fault Refusal := runMul .s64 .s32 .u64 s

/-- MUL.s64.s32.s64 (R120). -/
def execMulS64S32S64 (s : State) : Host.Outcome State Fault Refusal := runMul .s64 .s32 .s64 s

/-- MUL.s64.u64.u16 (R120). -/
def execMulS64U64U16 (s : State) : Host.Outcome State Fault Refusal := runMul .s64 .u64 .u16 s

/-- MUL.s64.u64.s16 (R120). -/
def execMulS64U64S16 (s : State) : Host.Outcome State Fault Refusal := runMul .s64 .u64 .s16 s

/-- MUL.s64.u64.u32 (R120). -/
def execMulS64U64U32 (s : State) : Host.Outcome State Fault Refusal := runMul .s64 .u64 .u32 s

/-- MUL.s64.u64.s32 (R120). -/
def execMulS64U64S32 (s : State) : Host.Outcome State Fault Refusal := runMul .s64 .u64 .s32 s

/-- MUL.s64.u64.u64 (R120). -/
def execMulS64U64U64 (s : State) : Host.Outcome State Fault Refusal := runMul .s64 .u64 .u64 s

/-- MUL.s64.u64.s64 (R120). -/
def execMulS64U64S64 (s : State) : Host.Outcome State Fault Refusal := runMul .s64 .u64 .s64 s

/-- MUL.s64.s64.u16 (R120). -/
def execMulS64S64U16 (s : State) : Host.Outcome State Fault Refusal := runMul .s64 .s64 .u16 s

/-- MUL.s64.s64.s16 (R120). -/
def execMulS64S64S16 (s : State) : Host.Outcome State Fault Refusal := runMul .s64 .s64 .s16 s

/-- MUL.s64.s64.u32 (R120). -/
def execMulS64S64U32 (s : State) : Host.Outcome State Fault Refusal := runMul .s64 .s64 .u32 s

/-- MUL.s64.s64.s32 (R120). -/
def execMulS64S64S32 (s : State) : Host.Outcome State Fault Refusal := runMul .s64 .s64 .s32 s

/-- MUL.s64.s64.u64 (R120). -/
def execMulS64S64U64 (s : State) : Host.Outcome State Fault Refusal := runMul .s64 .s64 .u64 s

/-- MUL.s64.s64.s64 (R120). -/
def execMulS64S64S64 (s : State) : Host.Outcome State Fault Refusal := runMul .s64 .s64 .s64 s

/-! ## The four MULW commands -/

/-- MULW.u32.u32 (R125). -/
def execMulwU32U32 (s : State) : Host.Outcome State Fault Refusal := runMulw .u32 .u32 s

/-- MULW.u32.s32 (R125). -/
def execMulwU32S32 (s : State) : Host.Outcome State Fault Refusal := runMulw .u32 .s32 s

/-- MULW.s32.u32 (R125). -/
def execMulwS32U32 (s : State) : Host.Outcome State Fault Refusal := runMulw .s32 .u32 s

/-- MULW.s32.s32 (R125). -/
def execMulwS32S32 (s : State) : Host.Outcome State Fault Refusal := runMulw .s32 .s32 s

end Sys2Proof.Machine
end

