-- ==== Sys2Proof/Machine/Div.lean ====
section
/-! DEFINITION. Saturating division, DIV (40_division R100 to R108), and the restoring long division by which R106
describes the 64-by-32 quotient. -/

namespace Sys2Proof.Machine

/-- The value of DIV.nt.dt.rt on X and Y (R100): a zero divisor saturates by the sign of X (R101) but for 0/0 of u64 by
u32, which is 1 (R102); any other quotient is truncated toward zero and clamped (R103), with the parameter
P_DIV_NEGOVF_MAX of R104. -/
def divide (p : Config.Params) (nt dt rt : Ty) (x y : Int) : Int :=
  if y = 0 then
    if nt = .u64 ∧ dt = .u32 ∧ x = 0 then 1
    else if 0 ≤ x then rt.max
    else rt.min
  else if p.divNegovfMax ∧ nt.signed ∧ x = nt.min ∧ y = -1 ∧ ¬ rt.signed ∧ rt.width = nt.width then rt.max
  else clamp (tdiv x y) rt

/-- DIV.nt.dt.rt (R100): no memory access, no error. -/
def divProg (nt dt rt : Ty) (s : State) : Prog Int :=
  .pure (divide s.params nt dt rt (val s.aL nt) (val s.bL dt))

/-- The meaning the 72 DIV commands share. -/
def runDiv (nt dt rt : Ty) (s : State) : Host.Outcome State Fault Refusal := runCommand (divProg nt dt rt s) s

/-- The loop of R106's long division: the remainder `r`, the quotient so far `q`, and the bits of `lo` from bit `k - 1`
down. -/
def longDivideLoop (y lo : Nat) : Nat → Nat → Nat → Nat
  | 0, _, q => q
  | k + 1, r, q =>
    let t := 2 * r + lo / 2 ^ k % 2
    if y ≤ t then longDivideLoop y lo k (t - y) (2 * q + 1) else longDivideLoop y lo k t (2 * q)

/-- The restoring long division of R106, at most 32 iterations, on a 64-bit X and a 32-bit Y not 0. No command uses it:
it is the source's algorithm, given by the spec as informative. -/
def longDivide (x y : Nat) : Nat :=
  if y ≤ x / 2 ^ 32 then 0xFFFFFFFF else longDivideLoop y (x % 2 ^ 32) 32 (x / 2 ^ 32) 0

/-! ## The 72 DIV commands -/

/-- DIV.u16.u16.u16 (R100). -/
def execDivU16U16U16 (s : State) : Host.Outcome State Fault Refusal := runDiv .u16 .u16 .u16 s

/-- DIV.u16.u16.s16 (R100). -/
def execDivU16U16S16 (s : State) : Host.Outcome State Fault Refusal := runDiv .u16 .u16 .s16 s

/-- DIV.u16.u16.u32 (R100). -/
def execDivU16U16U32 (s : State) : Host.Outcome State Fault Refusal := runDiv .u16 .u16 .u32 s

/-- DIV.u16.u16.s32 (R100). -/
def execDivU16U16S32 (s : State) : Host.Outcome State Fault Refusal := runDiv .u16 .u16 .s32 s

/-- DIV.u16.s16.u16 (R100). -/
def execDivU16S16U16 (s : State) : Host.Outcome State Fault Refusal := runDiv .u16 .s16 .u16 s

/-- DIV.u16.s16.s16 (R100). -/
def execDivU16S16S16 (s : State) : Host.Outcome State Fault Refusal := runDiv .u16 .s16 .s16 s

/-- DIV.u16.s16.u32 (R100). -/
def execDivU16S16U32 (s : State) : Host.Outcome State Fault Refusal := runDiv .u16 .s16 .u32 s

/-- DIV.u16.s16.s32 (R100). -/
def execDivU16S16S32 (s : State) : Host.Outcome State Fault Refusal := runDiv .u16 .s16 .s32 s

/-- DIV.u16.u32.u16 (R100). -/
def execDivU16U32U16 (s : State) : Host.Outcome State Fault Refusal := runDiv .u16 .u32 .u16 s

/-- DIV.u16.u32.s16 (R100). -/
def execDivU16U32S16 (s : State) : Host.Outcome State Fault Refusal := runDiv .u16 .u32 .s16 s

/-- DIV.u16.u32.u32 (R100). -/
def execDivU16U32U32 (s : State) : Host.Outcome State Fault Refusal := runDiv .u16 .u32 .u32 s

/-- DIV.u16.u32.s32 (R100). -/
def execDivU16U32S32 (s : State) : Host.Outcome State Fault Refusal := runDiv .u16 .u32 .s32 s

/-- DIV.u16.s32.u16 (R100). -/
def execDivU16S32U16 (s : State) : Host.Outcome State Fault Refusal := runDiv .u16 .s32 .u16 s

/-- DIV.u16.s32.s16 (R100). -/
def execDivU16S32S16 (s : State) : Host.Outcome State Fault Refusal := runDiv .u16 .s32 .s16 s

/-- DIV.u16.s32.u32 (R100). -/
def execDivU16S32U32 (s : State) : Host.Outcome State Fault Refusal := runDiv .u16 .s32 .u32 s

/-- DIV.u16.s32.s32 (R100). -/
def execDivU16S32S32 (s : State) : Host.Outcome State Fault Refusal := runDiv .u16 .s32 .s32 s

/-- DIV.s16.u16.u16 (R100). -/
def execDivS16U16U16 (s : State) : Host.Outcome State Fault Refusal := runDiv .s16 .u16 .u16 s

/-- DIV.s16.u16.s16 (R100). -/
def execDivS16U16S16 (s : State) : Host.Outcome State Fault Refusal := runDiv .s16 .u16 .s16 s

/-- DIV.s16.u16.u32 (R100). -/
def execDivS16U16U32 (s : State) : Host.Outcome State Fault Refusal := runDiv .s16 .u16 .u32 s

/-- DIV.s16.u16.s32 (R100). -/
def execDivS16U16S32 (s : State) : Host.Outcome State Fault Refusal := runDiv .s16 .u16 .s32 s

/-- DIV.s16.s16.u16 (R100). -/
def execDivS16S16U16 (s : State) : Host.Outcome State Fault Refusal := runDiv .s16 .s16 .u16 s

/-- DIV.s16.s16.s16 (R100). -/
def execDivS16S16S16 (s : State) : Host.Outcome State Fault Refusal := runDiv .s16 .s16 .s16 s

/-- DIV.s16.s16.u32 (R100). -/
def execDivS16S16U32 (s : State) : Host.Outcome State Fault Refusal := runDiv .s16 .s16 .u32 s

/-- DIV.s16.s16.s32 (R100). -/
def execDivS16S16S32 (s : State) : Host.Outcome State Fault Refusal := runDiv .s16 .s16 .s32 s

/-- DIV.s16.u32.u16 (R100). -/
def execDivS16U32U16 (s : State) : Host.Outcome State Fault Refusal := runDiv .s16 .u32 .u16 s

/-- DIV.s16.u32.s16 (R100). -/
def execDivS16U32S16 (s : State) : Host.Outcome State Fault Refusal := runDiv .s16 .u32 .s16 s

/-- DIV.s16.u32.u32 (R100). -/
def execDivS16U32U32 (s : State) : Host.Outcome State Fault Refusal := runDiv .s16 .u32 .u32 s

/-- DIV.s16.u32.s32 (R100). -/
def execDivS16U32S32 (s : State) : Host.Outcome State Fault Refusal := runDiv .s16 .u32 .s32 s

/-- DIV.s16.s32.u16 (R100). -/
def execDivS16S32U16 (s : State) : Host.Outcome State Fault Refusal := runDiv .s16 .s32 .u16 s

/-- DIV.s16.s32.s16 (R100). -/
def execDivS16S32S16 (s : State) : Host.Outcome State Fault Refusal := runDiv .s16 .s32 .s16 s

/-- DIV.s16.s32.u32 (R100). -/
def execDivS16S32U32 (s : State) : Host.Outcome State Fault Refusal := runDiv .s16 .s32 .u32 s

/-- DIV.s16.s32.s32 (R100). -/
def execDivS16S32S32 (s : State) : Host.Outcome State Fault Refusal := runDiv .s16 .s32 .s32 s

/-- DIV.u32.u16.u16 (R100). -/
def execDivU32U16U16 (s : State) : Host.Outcome State Fault Refusal := runDiv .u32 .u16 .u16 s

/-- DIV.u32.u16.s16 (R100). -/
def execDivU32U16S16 (s : State) : Host.Outcome State Fault Refusal := runDiv .u32 .u16 .s16 s

/-- DIV.u32.u16.u32 (R100). -/
def execDivU32U16U32 (s : State) : Host.Outcome State Fault Refusal := runDiv .u32 .u16 .u32 s

/-- DIV.u32.u16.s32 (R100). -/
def execDivU32U16S32 (s : State) : Host.Outcome State Fault Refusal := runDiv .u32 .u16 .s32 s

/-- DIV.u32.s16.u16 (R100). -/
def execDivU32S16U16 (s : State) : Host.Outcome State Fault Refusal := runDiv .u32 .s16 .u16 s

/-- DIV.u32.s16.s16 (R100). -/
def execDivU32S16S16 (s : State) : Host.Outcome State Fault Refusal := runDiv .u32 .s16 .s16 s

/-- DIV.u32.s16.u32 (R100). -/
def execDivU32S16U32 (s : State) : Host.Outcome State Fault Refusal := runDiv .u32 .s16 .u32 s

/-- DIV.u32.s16.s32 (R100). -/
def execDivU32S16S32 (s : State) : Host.Outcome State Fault Refusal := runDiv .u32 .s16 .s32 s

/-- DIV.u32.u32.u16 (R100). -/
def execDivU32U32U16 (s : State) : Host.Outcome State Fault Refusal := runDiv .u32 .u32 .u16 s

/-- DIV.u32.u32.s16 (R100). -/
def execDivU32U32S16 (s : State) : Host.Outcome State Fault Refusal := runDiv .u32 .u32 .s16 s

/-- DIV.u32.u32.u32 (R100). -/
def execDivU32U32U32 (s : State) : Host.Outcome State Fault Refusal := runDiv .u32 .u32 .u32 s

/-- DIV.u32.u32.s32 (R100). -/
def execDivU32U32S32 (s : State) : Host.Outcome State Fault Refusal := runDiv .u32 .u32 .s32 s

/-- DIV.u32.s32.u16 (R100). -/
def execDivU32S32U16 (s : State) : Host.Outcome State Fault Refusal := runDiv .u32 .s32 .u16 s

/-- DIV.u32.s32.s16 (R100). -/
def execDivU32S32S16 (s : State) : Host.Outcome State Fault Refusal := runDiv .u32 .s32 .s16 s

/-- DIV.u32.s32.u32 (R100). -/
def execDivU32S32U32 (s : State) : Host.Outcome State Fault Refusal := runDiv .u32 .s32 .u32 s

/-- DIV.u32.s32.s32 (R100). -/
def execDivU32S32S32 (s : State) : Host.Outcome State Fault Refusal := runDiv .u32 .s32 .s32 s

/-- DIV.s32.u16.u16 (R100). -/
def execDivS32U16U16 (s : State) : Host.Outcome State Fault Refusal := runDiv .s32 .u16 .u16 s

/-- DIV.s32.u16.s16 (R100). -/
def execDivS32U16S16 (s : State) : Host.Outcome State Fault Refusal := runDiv .s32 .u16 .s16 s

/-- DIV.s32.u16.u32 (R100). -/
def execDivS32U16U32 (s : State) : Host.Outcome State Fault Refusal := runDiv .s32 .u16 .u32 s

/-- DIV.s32.u16.s32 (R100). -/
def execDivS32U16S32 (s : State) : Host.Outcome State Fault Refusal := runDiv .s32 .u16 .s32 s

/-- DIV.s32.s16.u16 (R100). -/
def execDivS32S16U16 (s : State) : Host.Outcome State Fault Refusal := runDiv .s32 .s16 .u16 s

/-- DIV.s32.s16.s16 (R100). -/
def execDivS32S16S16 (s : State) : Host.Outcome State Fault Refusal := runDiv .s32 .s16 .s16 s

/-- DIV.s32.s16.u32 (R100). -/
def execDivS32S16U32 (s : State) : Host.Outcome State Fault Refusal := runDiv .s32 .s16 .u32 s

/-- DIV.s32.s16.s32 (R100). -/
def execDivS32S16S32 (s : State) : Host.Outcome State Fault Refusal := runDiv .s32 .s16 .s32 s

/-- DIV.s32.u32.u16 (R100). -/
def execDivS32U32U16 (s : State) : Host.Outcome State Fault Refusal := runDiv .s32 .u32 .u16 s

/-- DIV.s32.u32.s16 (R100). -/
def execDivS32U32S16 (s : State) : Host.Outcome State Fault Refusal := runDiv .s32 .u32 .s16 s

/-- DIV.s32.u32.u32 (R100). -/
def execDivS32U32U32 (s : State) : Host.Outcome State Fault Refusal := runDiv .s32 .u32 .u32 s

/-- DIV.s32.u32.s32 (R100). -/
def execDivS32U32S32 (s : State) : Host.Outcome State Fault Refusal := runDiv .s32 .u32 .s32 s

/-- DIV.s32.s32.u16 (R100). -/
def execDivS32S32U16 (s : State) : Host.Outcome State Fault Refusal := runDiv .s32 .s32 .u16 s

/-- DIV.s32.s32.s16 (R100). -/
def execDivS32S32S16 (s : State) : Host.Outcome State Fault Refusal := runDiv .s32 .s32 .s16 s

/-- DIV.s32.s32.u32 (R100). -/
def execDivS32S32U32 (s : State) : Host.Outcome State Fault Refusal := runDiv .s32 .s32 .u32 s

/-- DIV.s32.s32.s32 (R100). -/
def execDivS32S32S32 (s : State) : Host.Outcome State Fault Refusal := runDiv .s32 .s32 .s32 s

/-- DIV.u64.u32.u32 (R100). -/
def execDivU64U32U32 (s : State) : Host.Outcome State Fault Refusal := runDiv .u64 .u32 .u32 s

/-- DIV.u64.u32.s32 (R100). -/
def execDivU64U32S32 (s : State) : Host.Outcome State Fault Refusal := runDiv .u64 .u32 .s32 s

/-- DIV.u64.s32.u32 (R100). -/
def execDivU64S32U32 (s : State) : Host.Outcome State Fault Refusal := runDiv .u64 .s32 .u32 s

/-- DIV.u64.s32.s32 (R100). -/
def execDivU64S32S32 (s : State) : Host.Outcome State Fault Refusal := runDiv .u64 .s32 .s32 s

/-- DIV.s64.u32.u32 (R100). -/
def execDivS64U32U32 (s : State) : Host.Outcome State Fault Refusal := runDiv .s64 .u32 .u32 s

/-- DIV.s64.u32.s32 (R100). -/
def execDivS64U32S32 (s : State) : Host.Outcome State Fault Refusal := runDiv .s64 .u32 .s32 s

/-- DIV.s64.s32.u32 (R100). -/
def execDivS64S32U32 (s : State) : Host.Outcome State Fault Refusal := runDiv .s64 .s32 .u32 s

/-- DIV.s64.s32.s32 (R100). -/
def execDivS64S32S32 (s : State) : Host.Outcome State Fault Refusal := runDiv .s64 .s32 .s32 s

end Sys2Proof.Machine
end

