-- ==== Sys2Proof/Machine/MulDiv.lean ====
section
/-! DEFINITION. Combined multiply-divide, MULDIV (42_muldiv_limit R140 to R144), and the type limiter, LIM (R145,
R146). -/

namespace Sys2Proof.Machine

/-- `PT`: s64 if either multiplicand is signed, else u64 (R141). -/
def productType (xt yt : Ty) : Ty := if xt.signed || yt.signed then .s64 else .u64

/-- The type limiter (R145, R146). -/
def limit (x : Int) (rt : Ty) : Int := clamp x rt

/-- The value of MULDIV.xt.yt.zt.rt on X, Y and Z (R140): the exact product, the variant DIV.PT.ZT.RT32 (R141), the
limiter. -/
def mulDivide (p : Config.Params) (xt yt zt rt : Ty) (x y z : Int) : Int :=
  limit (divide p (productType xt yt) zt rt.to32 (x * y) z) rt

/-- MULDIV.xt.yt.zt.rt (R140): no memory access, no error. -/
def muldivProg (xt yt zt rt : Ty) (s : State) : Prog Int :=
  .pure (mulDivide s.params xt yt zt rt (val s.aL xt) (val s.bL yt) (val s.cL zt))

/-- The meaning the 32 MULDIV commands share. -/
def runMulDiv (xt yt zt rt : Ty) (s : State) : Host.Outcome State Fault Refusal :=
  runCommand (muldivProg xt yt zt rt s) s

/-- LIM.xt.rt (R145): no memory access, no error. -/
def limProg (xt rt : Ty) (s : State) : Prog Int := .pure (limit (val s.aL xt) rt)

/-- The meaning the 36 LIM commands share. -/
def runLim (xt rt : Ty) (s : State) : Host.Outcome State Fault Refusal := runCommand (limProg xt rt s) s

/-! ## The 32 MULDIV commands -/

/-- MULDIV.u32.u32.u32.u16 (R140). -/
def execMuldivU32U32U32U16 (s : State) : Host.Outcome State Fault Refusal := runMulDiv .u32 .u32 .u32 .u16 s

/-- MULDIV.u32.u32.u32.s16 (R140). -/
def execMuldivU32U32U32S16 (s : State) : Host.Outcome State Fault Refusal := runMulDiv .u32 .u32 .u32 .s16 s

/-- MULDIV.u32.u32.u32.u32 (R140). -/
def execMuldivU32U32U32U32 (s : State) : Host.Outcome State Fault Refusal := runMulDiv .u32 .u32 .u32 .u32 s

/-- MULDIV.u32.u32.u32.s32 (R140). -/
def execMuldivU32U32U32S32 (s : State) : Host.Outcome State Fault Refusal := runMulDiv .u32 .u32 .u32 .s32 s

/-- MULDIV.u32.u32.s32.u16 (R140). -/
def execMuldivU32U32S32U16 (s : State) : Host.Outcome State Fault Refusal := runMulDiv .u32 .u32 .s32 .u16 s

/-- MULDIV.u32.u32.s32.s16 (R140). -/
def execMuldivU32U32S32S16 (s : State) : Host.Outcome State Fault Refusal := runMulDiv .u32 .u32 .s32 .s16 s

/-- MULDIV.u32.u32.s32.u32 (R140). -/
def execMuldivU32U32S32U32 (s : State) : Host.Outcome State Fault Refusal := runMulDiv .u32 .u32 .s32 .u32 s

/-- MULDIV.u32.u32.s32.s32 (R140). -/
def execMuldivU32U32S32S32 (s : State) : Host.Outcome State Fault Refusal := runMulDiv .u32 .u32 .s32 .s32 s

/-- MULDIV.u32.s32.u32.u16 (R140). -/
def execMuldivU32S32U32U16 (s : State) : Host.Outcome State Fault Refusal := runMulDiv .u32 .s32 .u32 .u16 s

/-- MULDIV.u32.s32.u32.s16 (R140). -/
def execMuldivU32S32U32S16 (s : State) : Host.Outcome State Fault Refusal := runMulDiv .u32 .s32 .u32 .s16 s

/-- MULDIV.u32.s32.u32.u32 (R140). -/
def execMuldivU32S32U32U32 (s : State) : Host.Outcome State Fault Refusal := runMulDiv .u32 .s32 .u32 .u32 s

/-- MULDIV.u32.s32.u32.s32 (R140). -/
def execMuldivU32S32U32S32 (s : State) : Host.Outcome State Fault Refusal := runMulDiv .u32 .s32 .u32 .s32 s

/-- MULDIV.u32.s32.s32.u16 (R140). -/
def execMuldivU32S32S32U16 (s : State) : Host.Outcome State Fault Refusal := runMulDiv .u32 .s32 .s32 .u16 s

/-- MULDIV.u32.s32.s32.s16 (R140). -/
def execMuldivU32S32S32S16 (s : State) : Host.Outcome State Fault Refusal := runMulDiv .u32 .s32 .s32 .s16 s

/-- MULDIV.u32.s32.s32.u32 (R140). -/
def execMuldivU32S32S32U32 (s : State) : Host.Outcome State Fault Refusal := runMulDiv .u32 .s32 .s32 .u32 s

/-- MULDIV.u32.s32.s32.s32 (R140). -/
def execMuldivU32S32S32S32 (s : State) : Host.Outcome State Fault Refusal := runMulDiv .u32 .s32 .s32 .s32 s

/-- MULDIV.s32.u32.u32.u16 (R140). -/
def execMuldivS32U32U32U16 (s : State) : Host.Outcome State Fault Refusal := runMulDiv .s32 .u32 .u32 .u16 s

/-- MULDIV.s32.u32.u32.s16 (R140). -/
def execMuldivS32U32U32S16 (s : State) : Host.Outcome State Fault Refusal := runMulDiv .s32 .u32 .u32 .s16 s

/-- MULDIV.s32.u32.u32.u32 (R140). -/
def execMuldivS32U32U32U32 (s : State) : Host.Outcome State Fault Refusal := runMulDiv .s32 .u32 .u32 .u32 s

/-- MULDIV.s32.u32.u32.s32 (R140). -/
def execMuldivS32U32U32S32 (s : State) : Host.Outcome State Fault Refusal := runMulDiv .s32 .u32 .u32 .s32 s

/-- MULDIV.s32.u32.s32.u16 (R140). -/
def execMuldivS32U32S32U16 (s : State) : Host.Outcome State Fault Refusal := runMulDiv .s32 .u32 .s32 .u16 s

/-- MULDIV.s32.u32.s32.s16 (R140). -/
def execMuldivS32U32S32S16 (s : State) : Host.Outcome State Fault Refusal := runMulDiv .s32 .u32 .s32 .s16 s

/-- MULDIV.s32.u32.s32.u32 (R140). -/
def execMuldivS32U32S32U32 (s : State) : Host.Outcome State Fault Refusal := runMulDiv .s32 .u32 .s32 .u32 s

/-- MULDIV.s32.u32.s32.s32 (R140). -/
def execMuldivS32U32S32S32 (s : State) : Host.Outcome State Fault Refusal := runMulDiv .s32 .u32 .s32 .s32 s

/-- MULDIV.s32.s32.u32.u16 (R140). -/
def execMuldivS32S32U32U16 (s : State) : Host.Outcome State Fault Refusal := runMulDiv .s32 .s32 .u32 .u16 s

/-- MULDIV.s32.s32.u32.s16 (R140). -/
def execMuldivS32S32U32S16 (s : State) : Host.Outcome State Fault Refusal := runMulDiv .s32 .s32 .u32 .s16 s

/-- MULDIV.s32.s32.u32.u32 (R140). -/
def execMuldivS32S32U32U32 (s : State) : Host.Outcome State Fault Refusal := runMulDiv .s32 .s32 .u32 .u32 s

/-- MULDIV.s32.s32.u32.s32 (R140). -/
def execMuldivS32S32U32S32 (s : State) : Host.Outcome State Fault Refusal := runMulDiv .s32 .s32 .u32 .s32 s

/-- MULDIV.s32.s32.s32.u16 (R140). -/
def execMuldivS32S32S32U16 (s : State) : Host.Outcome State Fault Refusal := runMulDiv .s32 .s32 .s32 .u16 s

/-- MULDIV.s32.s32.s32.s16 (R140). -/
def execMuldivS32S32S32S16 (s : State) : Host.Outcome State Fault Refusal := runMulDiv .s32 .s32 .s32 .s16 s

/-- MULDIV.s32.s32.s32.u32 (R140). -/
def execMuldivS32S32S32U32 (s : State) : Host.Outcome State Fault Refusal := runMulDiv .s32 .s32 .s32 .u32 s

/-- MULDIV.s32.s32.s32.s32 (R140). -/
def execMuldivS32S32S32S32 (s : State) : Host.Outcome State Fault Refusal := runMulDiv .s32 .s32 .s32 .s32 s

/-! ## The 36 LIM commands -/

/-- LIM.u16.u16 (R145). -/
def execLimU16U16 (s : State) : Host.Outcome State Fault Refusal := runLim .u16 .u16 s

/-- LIM.u16.s16 (R145). -/
def execLimU16S16 (s : State) : Host.Outcome State Fault Refusal := runLim .u16 .s16 s

/-- LIM.u16.u32 (R145). -/
def execLimU16U32 (s : State) : Host.Outcome State Fault Refusal := runLim .u16 .u32 s

/-- LIM.u16.s32 (R145). -/
def execLimU16S32 (s : State) : Host.Outcome State Fault Refusal := runLim .u16 .s32 s

/-- LIM.u16.u64 (R145). -/
def execLimU16U64 (s : State) : Host.Outcome State Fault Refusal := runLim .u16 .u64 s

/-- LIM.u16.s64 (R145). -/
def execLimU16S64 (s : State) : Host.Outcome State Fault Refusal := runLim .u16 .s64 s

/-- LIM.s16.u16 (R145). -/
def execLimS16U16 (s : State) : Host.Outcome State Fault Refusal := runLim .s16 .u16 s

/-- LIM.s16.s16 (R145). -/
def execLimS16S16 (s : State) : Host.Outcome State Fault Refusal := runLim .s16 .s16 s

/-- LIM.s16.u32 (R145). -/
def execLimS16U32 (s : State) : Host.Outcome State Fault Refusal := runLim .s16 .u32 s

/-- LIM.s16.s32 (R145). -/
def execLimS16S32 (s : State) : Host.Outcome State Fault Refusal := runLim .s16 .s32 s

/-- LIM.s16.u64 (R145). -/
def execLimS16U64 (s : State) : Host.Outcome State Fault Refusal := runLim .s16 .u64 s

/-- LIM.s16.s64 (R145). -/
def execLimS16S64 (s : State) : Host.Outcome State Fault Refusal := runLim .s16 .s64 s

/-- LIM.u32.u16 (R145). -/
def execLimU32U16 (s : State) : Host.Outcome State Fault Refusal := runLim .u32 .u16 s

/-- LIM.u32.s16 (R145). -/
def execLimU32S16 (s : State) : Host.Outcome State Fault Refusal := runLim .u32 .s16 s

/-- LIM.u32.u32 (R145). -/
def execLimU32U32 (s : State) : Host.Outcome State Fault Refusal := runLim .u32 .u32 s

/-- LIM.u32.s32 (R145). -/
def execLimU32S32 (s : State) : Host.Outcome State Fault Refusal := runLim .u32 .s32 s

/-- LIM.u32.u64 (R145). -/
def execLimU32U64 (s : State) : Host.Outcome State Fault Refusal := runLim .u32 .u64 s

/-- LIM.u32.s64 (R145). -/
def execLimU32S64 (s : State) : Host.Outcome State Fault Refusal := runLim .u32 .s64 s

/-- LIM.s32.u16 (R145). -/
def execLimS32U16 (s : State) : Host.Outcome State Fault Refusal := runLim .s32 .u16 s

/-- LIM.s32.s16 (R145). -/
def execLimS32S16 (s : State) : Host.Outcome State Fault Refusal := runLim .s32 .s16 s

/-- LIM.s32.u32 (R145). -/
def execLimS32U32 (s : State) : Host.Outcome State Fault Refusal := runLim .s32 .u32 s

/-- LIM.s32.s32 (R145). -/
def execLimS32S32 (s : State) : Host.Outcome State Fault Refusal := runLim .s32 .s32 s

/-- LIM.s32.u64 (R145). -/
def execLimS32U64 (s : State) : Host.Outcome State Fault Refusal := runLim .s32 .u64 s

/-- LIM.s32.s64 (R145). -/
def execLimS32S64 (s : State) : Host.Outcome State Fault Refusal := runLim .s32 .s64 s

/-- LIM.u64.u16 (R145). -/
def execLimU64U16 (s : State) : Host.Outcome State Fault Refusal := runLim .u64 .u16 s

/-- LIM.u64.s16 (R145). -/
def execLimU64S16 (s : State) : Host.Outcome State Fault Refusal := runLim .u64 .s16 s

/-- LIM.u64.u32 (R145). -/
def execLimU64U32 (s : State) : Host.Outcome State Fault Refusal := runLim .u64 .u32 s

/-- LIM.u64.s32 (R145). -/
def execLimU64S32 (s : State) : Host.Outcome State Fault Refusal := runLim .u64 .s32 s

/-- LIM.u64.u64 (R145). -/
def execLimU64U64 (s : State) : Host.Outcome State Fault Refusal := runLim .u64 .u64 s

/-- LIM.u64.s64 (R145). -/
def execLimU64S64 (s : State) : Host.Outcome State Fault Refusal := runLim .u64 .s64 s

/-- LIM.s64.u16 (R145). -/
def execLimS64U16 (s : State) : Host.Outcome State Fault Refusal := runLim .s64 .u16 s

/-- LIM.s64.s16 (R145). -/
def execLimS64S16 (s : State) : Host.Outcome State Fault Refusal := runLim .s64 .s16 s

/-- LIM.s64.u32 (R145). -/
def execLimS64U32 (s : State) : Host.Outcome State Fault Refusal := runLim .s64 .u32 s

/-- LIM.s64.s32 (R145). -/
def execLimS64S32 (s : State) : Host.Outcome State Fault Refusal := runLim .s64 .s32 s

/-- LIM.s64.u64 (R145). -/
def execLimS64U64 (s : State) : Host.Outcome State Fault Refusal := runLim .s64 .u64 s

/-- LIM.s64.s64 (R145). -/
def execLimS64S64 (s : State) : Host.Outcome State Fault Refusal := runLim .s64 .s64 s

end Sys2Proof.Machine
end

