-- ==== Sys2Proof/Machine/Tables.lean ====
section
/-! DEFINITION. Distribution search, DSEARCH, and curve and map interpolation, CURVE, MAP and MAPG (43_search_interp
R160 to R190), over the records of 20_memory R64 to R66. -/

namespace Sys2Proof.Machine

/-! ## Distributions and the search -/

/-- `elem(a, k, ET)`: the element `k` of the array at `a` (00_scope R14). -/
def elem (a k : Nat) (et : Elem) : Prog Int := (memRead (a + 2 * k) .b2).bind fun v => .pure (elemVal et v)

/-- The elements `k .. k + n - 1` of the array at `a`, each read once, in ascending order (R161 leaves the order free;
log entry 8). -/
def readElems (a : Nat) (et : Elem) : Nat → Nat → Prog (List Int)
  | 0, _ => .pure []
  | n + 1, k => (elem a k et).bind fun d => (readElems a et n (k + 1)).bind fun ds => .pure (d :: ds)

/-- No element is above the next (R164). -/
def nonDecreasing : List Int → Bool
  | [] => true
  | [_] => true
  | d :: e :: rest => decide (d ≤ e) && nonDecreasing (e :: rest)

/-- `check_dist(d, N)` (R164). -/
def checkDist (d : List Int) : Prog Unit := raiseIf (decide (d.length < 2) || !nonDecreasing d) .precond

/-- `max {k : d_k <= X}`, the backward scan's answer (R161, R163); none where every element is above X. -/
def lastAtMost (x : Int) : List Int → Option Nat
  | [] => none
  | d :: rest =>
    match lastAtMost x rest with
    | some k => some (k + 1)
    | none => if d ≤ x then some 0 else none

/-- `floor(((X - lo) << 15) / (hi - lo))` (R160). -/
def ratio (x lo hi : Int) : Nat := ((x - lo) * 32768).fdiv (hi - lo) |>.toNat

/-- `search(X, d, N)`: the bracketing index and the ratio (R160). -/
def search (x : Int) (d : List Int) : Nat × Nat :=
  if x ≤ d.getD 0 0 then (0, 0)
  else if d.getD (d.length - 1) 0 ≤ x then (d.length - 1, 0)
  else
    let i := (lastAtMost x d).getD 0
    (i, ratio x (d.getD i 0) (d.getD (i + 1) 0))

/-- `i << 16 | r`, the packed search result (R160, R162). -/
def pack (i r : Nat) : Nat := i * 65536 + r

/-- DSEARCH.et (R160). -/
def dsearchProg (et : Elem) (s : State) : Prog Int :=
  let x := val s.aL et.query
  let d := addrOf s.bL
  (checkAlign d 2).bind fun _ =>
  (memRead d .b2).bind fun n =>
  (raiseIf (decide (n.toNat < 2)) .precond).bind fun _ =>
  (readElems (d + 2) et n.toNat 0).bind fun ds =>
  (checkDist ds).bind fun _ =>
  .pure (pack (search x ds).1 (search x ds).2)

/-! ## Curves -/

/-- The y value of a curve at X: the y elements stand at `yb` (R170). -/
def curveValue (p : Config.Params) (et : Elem) (x : Int) (xs : List Int) (yb : Nat) : Prog Int :=
  if x ≤ xs.getD 0 0 then elem yb 0 et
  else if xs.getD (xs.length - 1) 0 ≤ x then elem yb (xs.length - 1) et
  else
    let i := (lastAtMost x xs).getD 0
    (elem yb i et).bind fun y0 =>
    (elem yb (i + 1) et).bind fun y1 =>
    .pure (y0 + mulDivide p .s32 .s32 .s32 .s32 (y1 - y0) (x - xs.getD i 0) (xs.getD (i + 1) 0 - xs.getD i 0))

/-- CURVE.et (R170). -/
def curveProg (et : Elem) (s : State) : Prog Int :=
  let x := val s.aL et.query
  let c := addrOf s.bL
  (checkAlign c 2).bind fun _ =>
  (memRead c .b2).bind fun n =>
  (raiseIf (decide (n.toNat < 2)) .precond).bind fun _ =>
  (readElems (c + 2) et n.toNat 0).bind fun xs =>
  (checkDist xs).bind fun _ =>
  curveValue s.params et x xs (c + 2 + 2 * n.toNat)

/-! ## Maps -/

/-- `sc(v)`: the blend's division by 32768, rounded as P_MAP_BLEND_ROUND says (R186, R187). -/
def blendScale (p : Config.Params) (v : Int) : Int :=
  match p.mapBlendRound with
  | .shift => shiftRight15 v
  | .trunc => tdiv v 32768

/-- One blend: from `z0` toward `z1` by the ratio `r` (R186). -/
def blendValue (p : Config.Params) (z0 z1 : Int) (r : Nat) : Int := z0 + blendScale p ((z1 - z0) * (r : Int))

/-- `rowblend(i)`: the blend along Y in row `i` (R186); the next element is read only where the ratio is not 0. -/
def rowBlend (p : Config.Params) (et : Elem) (g ny iy ry i : Nat) : Prog Int :=
  (elem g (i * ny + iy) et).bind fun z0 =>
  if ry = 0 then .pure z0
  else (elem g (i * ny + (iy + 1)) et).bind fun z1 => .pure (blendValue p z0 z1 ry)

/-- `blend(M, Nx, Ny, ix, rx, iy, ry, ET)` (R186): row `ix`, then, where the X ratio is not 0, row `ix + 1`. -/
def blend (p : Config.Params) (et : Elem) (m nx ny ix rx iy ry : Nat) : Prog Int :=
  let g := m + 4 + 2 * nx + 2 * ny
  (rowBlend p et g ny iy ry ix).bind fun a =>
  if rx = 0 then .pure a
  else (rowBlend p et g ny iy ry (ix + 1)).bind fun b => .pure (blendValue p a b rx)

/-- MAP.et (R180). -/
def mapProg (et : Elem) (s : State) : Prog Int :=
  let x := val s.aL et.query
  let y := val s.bL et.query
  let m := addrOf s.cL
  (checkAlign m 2).bind fun _ =>
  (memRead m .b2).bind fun nx =>
  (memRead (m + 2) .b2).bind fun ny =>
  (raiseIf (decide (nx.toNat < 2) || decide (ny.toNat < 2)) .precond).bind fun _ =>
  (readElems (m + 4) et nx.toNat 0).bind fun xd =>
  (readElems (m + 4 + 2 * nx.toNat) et ny.toNat 0).bind fun yd =>
  (checkDist xd).bind fun _ =>
  (checkDist yd).bind fun _ =>
  blend s.params et m nx.toNat ny.toNat (search x xd).1 (search x xd).2 (search y yd).1 (search y yd).2

/-- The packed operands MAPG refuses: a ratio of 32768 or more, an index past the axis, a ratio that needs a knot past
the last (R185, R188). -/
def badPacked (nx ny ix rx iy ry : Nat) : Bool :=
  decide (32768 ≤ rx) || decide (32768 ≤ ry) || decide (nx ≤ ix) || decide (ny ≤ iy) ||
    (rx != 0 && ix == nx - 1) || (ry != 0 && iy == ny - 1)

/-- MAPG.et (R185). -/
def mapgProg (et : Elem) (s : State) : Prog Int :=
  let ix := high16 s.aL
  let rx := low16 s.aL
  let iy := high16 s.bL
  let ry := low16 s.bL
  let m := addrOf s.cL
  (checkAlign m 2).bind fun _ =>
  (memRead m .b2).bind fun nx =>
  (memRead (m + 2) .b2).bind fun ny =>
  (raiseIf (decide (nx.toNat < 2) || decide (ny.toNat < 2)) .precond).bind fun _ =>
  (raiseIf (badPacked nx.toNat ny.toNat ix rx iy ry) .precond).bind fun _ =>
  blend s.params et m nx.toNat ny.toNat ix rx iy ry

/-! ## The meanings the commands of each operation share -/

/-- DSEARCH (R160). -/
def runDsearch (et : Elem) (s : State) : Host.Outcome State Fault Refusal := runCommand (dsearchProg et s) s

/-- CURVE (R170). -/
def runCurve (et : Elem) (s : State) : Host.Outcome State Fault Refusal := runCommand (curveProg et s) s

/-- MAP (R180). -/
def runMap (et : Elem) (s : State) : Host.Outcome State Fault Refusal := runCommand (mapProg et s) s

/-- MAPG (R185). -/
def runMapg (et : Elem) (s : State) : Host.Outcome State Fault Refusal := runCommand (mapgProg et s) s

/-! ## The eight commands -/

/-- DSEARCH.u16 (R160). -/
def execDsearchU16 (s : State) : Host.Outcome State Fault Refusal := runDsearch .u16 s

/-- DSEARCH.s16 (R160). -/
def execDsearchS16 (s : State) : Host.Outcome State Fault Refusal := runDsearch .s16 s

/-- CURVE.u16 (R170). -/
def execCurveU16 (s : State) : Host.Outcome State Fault Refusal := runCurve .u16 s

/-- CURVE.s16 (R170). -/
def execCurveS16 (s : State) : Host.Outcome State Fault Refusal := runCurve .s16 s

/-- MAP.u16 (R180). -/
def execMapU16 (s : State) : Host.Outcome State Fault Refusal := runMap .u16 s

/-- MAP.s16 (R180). -/
def execMapS16 (s : State) : Host.Outcome State Fault Refusal := runMap .s16 s

/-- MAPG.u16 (R185). -/
def execMapgU16 (s : State) : Host.Outcome State Fault Refusal := runMapg .u16 s

/-- MAPG.s16 (R185). -/
def execMapgS16 (s : State) : Host.Outcome State Fault Refusal := runMapg .s16 s

end Sys2Proof.Machine
end

