-- ==== Sys2Proof/Machine/Timer.lean ====
section
/-! DEFINITION. The software timer, TSTART, TELAPSED, TISSTOPPED and TSTOP (46_timer R240 to R247), over the record of
20_memory R69. The unit has no clock: the current time is the operand `now` (R247). -/

namespace Sys2Proof.Machine

/-- TSTART (R240): `now` is stored exactly, 0 included (R241). -/
def tstartProg (s : State) : Prog Int :=
  let t := addrOf s.aL
  (checkAlign t 4).bind fun _ => (memWrite t .b4 (low32 s.bL)).bind fun _ => .pure 0

/-- The elapsed time of R242, in its two branches. -/
def elapsed (now st : Nat) : Int :=
  if st ≤ now then (now : Int) - st else 0xFFFFFFFF - ((st : Int) - now - 1)

/-- TELAPSED (R242). -/
def telapsedProg (s : State) : Prog Int :=
  let t := addrOf s.aL
  (checkAlign t 4).bind fun _ => (memRead t .b4).bind fun st => .pure (elapsed (low32 s.bL).toNat st.toNat)

/-- TISSTOPPED (R244): 1 where STARTED_AT is the sentinel 0. -/
def tisstoppedProg (s : State) : Prog Int :=
  let t := addrOf s.aL
  (checkAlign t 4).bind fun _ => (memRead t .b4).bind fun st => .pure (if st = 0 then 1 else 0)

/-- TSTOP (R246). -/
def tstopProg (s : State) : Prog Int :=
  let t := addrOf s.aL
  (checkAlign t 4).bind fun _ => (memWrite t .b4 0).bind fun _ => .pure 0

/-! ## The meanings -/

/-- TSTART (R240). -/
def runTstart (s : State) : Host.Outcome State Fault Refusal := runCommand (tstartProg s) s

/-- TELAPSED (R242). -/
def runTelapsed (s : State) : Host.Outcome State Fault Refusal := runCommand (telapsedProg s) s

/-- TISSTOPPED (R244). -/
def runTisstopped (s : State) : Host.Outcome State Fault Refusal := runCommand (tisstoppedProg s) s

/-- TSTOP (R246). -/
def runTstop (s : State) : Host.Outcome State Fault Refusal := runCommand (tstopProg s) s

/-! ## The four commands -/

/-- TSTART (R240). -/
def execTstart (s : State) : Host.Outcome State Fault Refusal := runTstart s

/-- TELAPSED (R242). -/
def execTelapsed (s : State) : Host.Outcome State Fault Refusal := runTelapsed s

/-- TISSTOPPED (R244). -/
def execTisstopped (s : State) : Host.Outcome State Fault Refusal := runTisstopped s

/-- TSTOP (R246). -/
def execTstop (s : State) : Host.Outcome State Fault Refusal := runTstop s

end Sys2Proof.Machine
end

