-- ==== Sys2Proof/Machine/Dispatch.lean ====
section
/-! DEFINITION. Which meaning each command has: one arm per constructor, one direct call an arm. -/

namespace Sys2Proof.Machine

def exec (i : Instr) (s : State) : Host.Outcome State Fault Refusal :=
  match i with
  | .divU16U16U16 => Sys2Proof.Machine.execDivU16U16U16 s
  | .divU16U16S16 => Sys2Proof.Machine.execDivU16U16S16 s
  | .divU16U16U32 => Sys2Proof.Machine.execDivU16U16U32 s
  | .divU16U16S32 => Sys2Proof.Machine.execDivU16U16S32 s
  | .divU16S16U16 => Sys2Proof.Machine.execDivU16S16U16 s
  | .divU16S16S16 => Sys2Proof.Machine.execDivU16S16S16 s
  | .divU16S16U32 => Sys2Proof.Machine.execDivU16S16U32 s
  | .divU16S16S32 => Sys2Proof.Machine.execDivU16S16S32 s
  | .divU16U32U16 => Sys2Proof.Machine.execDivU16U32U16 s
  | .divU16U32S16 => Sys2Proof.Machine.execDivU16U32S16 s
  | .divU16U32U32 => Sys2Proof.Machine.execDivU16U32U32 s
  | .divU16U32S32 => Sys2Proof.Machine.execDivU16U32S32 s
  | .divU16S32U16 => Sys2Proof.Machine.execDivU16S32U16 s
  | .divU16S32S16 => Sys2Proof.Machine.execDivU16S32S16 s
  | .divU16S32U32 => Sys2Proof.Machine.execDivU16S32U32 s
  | .divU16S32S32 => Sys2Proof.Machine.execDivU16S32S32 s
  | .divS16U16U16 => Sys2Proof.Machine.execDivS16U16U16 s
  | .divS16U16S16 => Sys2Proof.Machine.execDivS16U16S16 s
  | .divS16U16U32 => Sys2Proof.Machine.execDivS16U16U32 s
  | .divS16U16S32 => Sys2Proof.Machine.execDivS16U16S32 s
  | .divS16S16U16 => Sys2Proof.Machine.execDivS16S16U16 s
  | .divS16S16S16 => Sys2Proof.Machine.execDivS16S16S16 s
  | .divS16S16U32 => Sys2Proof.Machine.execDivS16S16U32 s
  | .divS16S16S32 => Sys2Proof.Machine.execDivS16S16S32 s
  | .divS16U32U16 => Sys2Proof.Machine.execDivS16U32U16 s
  | .divS16U32S16 => Sys2Proof.Machine.execDivS16U32S16 s
  | .divS16U32U32 => Sys2Proof.Machine.execDivS16U32U32 s
  | .divS16U32S32 => Sys2Proof.Machine.execDivS16U32S32 s
  | .divS16S32U16 => Sys2Proof.Machine.execDivS16S32U16 s
  | .divS16S32S16 => Sys2Proof.Machine.execDivS16S32S16 s
  | .divS16S32U32 => Sys2Proof.Machine.execDivS16S32U32 s
  | .divS16S32S32 => Sys2Proof.Machine.execDivS16S32S32 s
  | .divU32U16U16 => Sys2Proof.Machine.execDivU32U16U16 s
  | .divU32U16S16 => Sys2Proof.Machine.execDivU32U16S16 s
  | .divU32U16U32 => Sys2Proof.Machine.execDivU32U16U32 s
  | .divU32U16S32 => Sys2Proof.Machine.execDivU32U16S32 s
  | .divU32S16U16 => Sys2Proof.Machine.execDivU32S16U16 s
  | .divU32S16S16 => Sys2Proof.Machine.execDivU32S16S16 s
  | .divU32S16U32 => Sys2Proof.Machine.execDivU32S16U32 s
  | .divU32S16S32 => Sys2Proof.Machine.execDivU32S16S32 s
  | .divU32U32U16 => Sys2Proof.Machine.execDivU32U32U16 s
  | .divU32U32S16 => Sys2Proof.Machine.execDivU32U32S16 s
  | .divU32U32U32 => Sys2Proof.Machine.execDivU32U32U32 s
  | .divU32U32S32 => Sys2Proof.Machine.execDivU32U32S32 s
  | .divU32S32U16 => Sys2Proof.Machine.execDivU32S32U16 s
  | .divU32S32S16 => Sys2Proof.Machine.execDivU32S32S16 s
  | .divU32S32U32 => Sys2Proof.Machine.execDivU32S32U32 s
  | .divU32S32S32 => Sys2Proof.Machine.execDivU32S32S32 s
  | .divS32U16U16 => Sys2Proof.Machine.execDivS32U16U16 s
  | .divS32U16S16 => Sys2Proof.Machine.execDivS32U16S16 s
  | .divS32U16U32 => Sys2Proof.Machine.execDivS32U16U32 s
  | .divS32U16S32 => Sys2Proof.Machine.execDivS32U16S32 s
  | .divS32S16U16 => Sys2Proof.Machine.execDivS32S16U16 s
  | .divS32S16S16 => Sys2Proof.Machine.execDivS32S16S16 s
  | .divS32S16U32 => Sys2Proof.Machine.execDivS32S16U32 s
  | .divS32S16S32 => Sys2Proof.Machine.execDivS32S16S32 s
  | .divS32U32U16 => Sys2Proof.Machine.execDivS32U32U16 s
  | .divS32U32S16 => Sys2Proof.Machine.execDivS32U32S16 s
  | .divS32U32U32 => Sys2Proof.Machine.execDivS32U32U32 s
  | .divS32U32S32 => Sys2Proof.Machine.execDivS32U32S32 s
  | .divS32S32U16 => Sys2Proof.Machine.execDivS32S32U16 s
  | .divS32S32S16 => Sys2Proof.Machine.execDivS32S32S16 s
  | .divS32S32U32 => Sys2Proof.Machine.execDivS32S32U32 s
  | .divS32S32S32 => Sys2Proof.Machine.execDivS32S32S32 s
  | .divU64U32U32 => Sys2Proof.Machine.execDivU64U32U32 s
  | .divU64U32S32 => Sys2Proof.Machine.execDivU64U32S32 s
  | .divU64S32U32 => Sys2Proof.Machine.execDivU64S32U32 s
  | .divU64S32S32 => Sys2Proof.Machine.execDivU64S32S32 s
  | .divS64U32U32 => Sys2Proof.Machine.execDivS64U32U32 s
  | .divS64U32S32 => Sys2Proof.Machine.execDivS64U32S32 s
  | .divS64S32U32 => Sys2Proof.Machine.execDivS64S32U32 s
  | .divS64S32S32 => Sys2Proof.Machine.execDivS64S32S32 s
  | .mulU16U16U16 => Sys2Proof.Machine.execMulU16U16U16 s
  | .mulU16U16S16 => Sys2Proof.Machine.execMulU16U16S16 s
  | .mulU16S16U16 => Sys2Proof.Machine.execMulU16S16U16 s
  | .mulU16S16S16 => Sys2Proof.Machine.execMulU16S16S16 s
  | .mulU16U32U16 => Sys2Proof.Machine.execMulU16U32U16 s
  | .mulU16U32S16 => Sys2Proof.Machine.execMulU16U32S16 s
  | .mulU16U32U32 => Sys2Proof.Machine.execMulU16U32U32 s
  | .mulU16U32S32 => Sys2Proof.Machine.execMulU16U32S32 s
  | .mulU16S32U16 => Sys2Proof.Machine.execMulU16S32U16 s
  | .mulU16S32S16 => Sys2Proof.Machine.execMulU16S32S16 s
  | .mulU16S32U32 => Sys2Proof.Machine.execMulU16S32U32 s
  | .mulU16S32S32 => Sys2Proof.Machine.execMulU16S32S32 s
  | .mulU16U64U16 => Sys2Proof.Machine.execMulU16U64U16 s
  | .mulU16U64S16 => Sys2Proof.Machine.execMulU16U64S16 s
  | .mulU16U64U32 => Sys2Proof.Machine.execMulU16U64U32 s
  | .mulU16U64S32 => Sys2Proof.Machine.execMulU16U64S32 s
  | .mulU16U64U64 => Sys2Proof.Machine.execMulU16U64U64 s
  | .mulU16U64S64 => Sys2Proof.Machine.execMulU16U64S64 s
  | .mulU16S64U16 => Sys2Proof.Machine.execMulU16S64U16 s
  | .mulU16S64S16 => Sys2Proof.Machine.execMulU16S64S16 s
  | .mulU16S64U32 => Sys2Proof.Machine.execMulU16S64U32 s
  | .mulU16S64S32 => Sys2Proof.Machine.execMulU16S64S32 s
  | .mulU16S64U64 => Sys2Proof.Machine.execMulU16S64U64 s
  | .mulU16S64S64 => Sys2Proof.Machine.execMulU16S64S64 s
  | .mulS16U16U16 => Sys2Proof.Machine.execMulS16U16U16 s
  | .mulS16U16S16 => Sys2Proof.Machine.execMulS16U16S16 s
  | .mulS16S16U16 => Sys2Proof.Machine.execMulS16S16U16 s
  | .mulS16S16S16 => Sys2Proof.Machine.execMulS16S16S16 s
  | .mulS16U32U16 => Sys2Proof.Machine.execMulS16U32U16 s
  | .mulS16U32S16 => Sys2Proof.Machine.execMulS16U32S16 s
  | .mulS16U32U32 => Sys2Proof.Machine.execMulS16U32U32 s
  | .mulS16U32S32 => Sys2Proof.Machine.execMulS16U32S32 s
  | .mulS16S32U16 => Sys2Proof.Machine.execMulS16S32U16 s
  | .mulS16S32S16 => Sys2Proof.Machine.execMulS16S32S16 s
  | .mulS16S32U32 => Sys2Proof.Machine.execMulS16S32U32 s
  | .mulS16S32S32 => Sys2Proof.Machine.execMulS16S32S32 s
  | .mulS16U64U16 => Sys2Proof.Machine.execMulS16U64U16 s
  | .mulS16U64S16 => Sys2Proof.Machine.execMulS16U64S16 s
  | .mulS16U64U32 => Sys2Proof.Machine.execMulS16U64U32 s
  | .mulS16U64S32 => Sys2Proof.Machine.execMulS16U64S32 s
  | .mulS16U64U64 => Sys2Proof.Machine.execMulS16U64U64 s
  | .mulS16U64S64 => Sys2Proof.Machine.execMulS16U64S64 s
  | .mulS16S64U16 => Sys2Proof.Machine.execMulS16S64U16 s
  | .mulS16S64S16 => Sys2Proof.Machine.execMulS16S64S16 s
  | .mulS16S64U32 => Sys2Proof.Machine.execMulS16S64U32 s
  | .mulS16S64S32 => Sys2Proof.Machine.execMulS16S64S32 s
  | .mulS16S64U64 => Sys2Proof.Machine.execMulS16S64U64 s
  | .mulS16S64S64 => Sys2Proof.Machine.execMulS16S64S64 s
  | .mulU32U16U16 => Sys2Proof.Machine.execMulU32U16U16 s
  | .mulU32U16S16 => Sys2Proof.Machine.execMulU32U16S16 s
  | .mulU32U16U32 => Sys2Proof.Machine.execMulU32U16U32 s
  | .mulU32U16S32 => Sys2Proof.Machine.execMulU32U16S32 s
  | .mulU32S16U16 => Sys2Proof.Machine.execMulU32S16U16 s
  | .mulU32S16S16 => Sys2Proof.Machine.execMulU32S16S16 s
  | .mulU32S16U32 => Sys2Proof.Machine.execMulU32S16U32 s
  | .mulU32S16S32 => Sys2Proof.Machine.execMulU32S16S32 s
  | .mulU32U32U16 => Sys2Proof.Machine.execMulU32U32U16 s
  | .mulU32U32S16 => Sys2Proof.Machine.execMulU32U32S16 s
  | .mulU32U32U32 => Sys2Proof.Machine.execMulU32U32U32 s
  | .mulU32U32S32 => Sys2Proof.Machine.execMulU32U32S32 s
  | .mulU32S32U16 => Sys2Proof.Machine.execMulU32S32U16 s
  | .mulU32S32S16 => Sys2Proof.Machine.execMulU32S32S16 s
  | .mulU32S32U32 => Sys2Proof.Machine.execMulU32S32U32 s
  | .mulU32S32S32 => Sys2Proof.Machine.execMulU32S32S32 s
  | .mulU32U64U16 => Sys2Proof.Machine.execMulU32U64U16 s
  | .mulU32U64S16 => Sys2Proof.Machine.execMulU32U64S16 s
  | .mulU32U64U32 => Sys2Proof.Machine.execMulU32U64U32 s
  | .mulU32U64S32 => Sys2Proof.Machine.execMulU32U64S32 s
  | .mulU32U64U64 => Sys2Proof.Machine.execMulU32U64U64 s
  | .mulU32U64S64 => Sys2Proof.Machine.execMulU32U64S64 s
  | .mulU32S64U16 => Sys2Proof.Machine.execMulU32S64U16 s
  | .mulU32S64S16 => Sys2Proof.Machine.execMulU32S64S16 s
  | .mulU32S64U32 => Sys2Proof.Machine.execMulU32S64U32 s
  | .mulU32S64S32 => Sys2Proof.Machine.execMulU32S64S32 s
  | .mulU32S64U64 => Sys2Proof.Machine.execMulU32S64U64 s
  | .mulU32S64S64 => Sys2Proof.Machine.execMulU32S64S64 s
  | .mulS32U16U16 => Sys2Proof.Machine.execMulS32U16U16 s
  | .mulS32U16S16 => Sys2Proof.Machine.execMulS32U16S16 s
  | .mulS32U16U32 => Sys2Proof.Machine.execMulS32U16U32 s
  | .mulS32U16S32 => Sys2Proof.Machine.execMulS32U16S32 s
  | .mulS32S16U16 => Sys2Proof.Machine.execMulS32S16U16 s
  | .mulS32S16S16 => Sys2Proof.Machine.execMulS32S16S16 s
  | .mulS32S16U32 => Sys2Proof.Machine.execMulS32S16U32 s
  | .mulS32S16S32 => Sys2Proof.Machine.execMulS32S16S32 s
  | .mulS32U32U16 => Sys2Proof.Machine.execMulS32U32U16 s
  | .mulS32U32S16 => Sys2Proof.Machine.execMulS32U32S16 s
  | .mulS32U32U32 => Sys2Proof.Machine.execMulS32U32U32 s
  | .mulS32U32S32 => Sys2Proof.Machine.execMulS32U32S32 s
  | .mulS32S32U16 => Sys2Proof.Machine.execMulS32S32U16 s
  | .mulS32S32S16 => Sys2Proof.Machine.execMulS32S32S16 s
  | .mulS32S32U32 => Sys2Proof.Machine.execMulS32S32U32 s
  | .mulS32S32S32 => Sys2Proof.Machine.execMulS32S32S32 s
  | .mulS32U64U16 => Sys2Proof.Machine.execMulS32U64U16 s
  | .mulS32U64S16 => Sys2Proof.Machine.execMulS32U64S16 s
  | .mulS32U64U32 => Sys2Proof.Machine.execMulS32U64U32 s
  | .mulS32U64S32 => Sys2Proof.Machine.execMulS32U64S32 s
  | .mulS32U64U64 => Sys2Proof.Machine.execMulS32U64U64 s
  | .mulS32U64S64 => Sys2Proof.Machine.execMulS32U64S64 s
  | .mulS32S64U16 => Sys2Proof.Machine.execMulS32S64U16 s
  | .mulS32S64S16 => Sys2Proof.Machine.execMulS32S64S16 s
  | .mulS32S64U32 => Sys2Proof.Machine.execMulS32S64U32 s
  | .mulS32S64S32 => Sys2Proof.Machine.execMulS32S64S32 s
  | .mulS32S64U64 => Sys2Proof.Machine.execMulS32S64U64 s
  | .mulS32S64S64 => Sys2Proof.Machine.execMulS32S64S64 s
  | .mulU64U16U16 => Sys2Proof.Machine.execMulU64U16U16 s
  | .mulU64U16S16 => Sys2Proof.Machine.execMulU64U16S16 s
  | .mulU64U16U32 => Sys2Proof.Machine.execMulU64U16U32 s
  | .mulU64U16S32 => Sys2Proof.Machine.execMulU64U16S32 s
  | .mulU64U16U64 => Sys2Proof.Machine.execMulU64U16U64 s
  | .mulU64U16S64 => Sys2Proof.Machine.execMulU64U16S64 s
  | .mulU64S16U16 => Sys2Proof.Machine.execMulU64S16U16 s
  | .mulU64S16S16 => Sys2Proof.Machine.execMulU64S16S16 s
  | .mulU64S16U32 => Sys2Proof.Machine.execMulU64S16U32 s
  | .mulU64S16S32 => Sys2Proof.Machine.execMulU64S16S32 s
  | .mulU64S16U64 => Sys2Proof.Machine.execMulU64S16U64 s
  | .mulU64S16S64 => Sys2Proof.Machine.execMulU64S16S64 s
  | .mulU64U32U16 => Sys2Proof.Machine.execMulU64U32U16 s
  | .mulU64U32S16 => Sys2Proof.Machine.execMulU64U32S16 s
  | .mulU64U32U32 => Sys2Proof.Machine.execMulU64U32U32 s
  | .mulU64U32S32 => Sys2Proof.Machine.execMulU64U32S32 s
  | .mulU64U32U64 => Sys2Proof.Machine.execMulU64U32U64 s
  | .mulU64U32S64 => Sys2Proof.Machine.execMulU64U32S64 s
  | .mulU64S32U16 => Sys2Proof.Machine.execMulU64S32U16 s
  | .mulU64S32S16 => Sys2Proof.Machine.execMulU64S32S16 s
  | .mulU64S32U32 => Sys2Proof.Machine.execMulU64S32U32 s
  | .mulU64S32S32 => Sys2Proof.Machine.execMulU64S32S32 s
  | .mulU64S32U64 => Sys2Proof.Machine.execMulU64S32U64 s
  | .mulU64S32S64 => Sys2Proof.Machine.execMulU64S32S64 s
  | .mulU64U64U16 => Sys2Proof.Machine.execMulU64U64U16 s
  | .mulU64U64S16 => Sys2Proof.Machine.execMulU64U64S16 s
  | .mulU64U64U32 => Sys2Proof.Machine.execMulU64U64U32 s
  | .mulU64U64S32 => Sys2Proof.Machine.execMulU64U64S32 s
  | .mulU64U64U64 => Sys2Proof.Machine.execMulU64U64U64 s
  | .mulU64U64S64 => Sys2Proof.Machine.execMulU64U64S64 s
  | .mulU64S64U16 => Sys2Proof.Machine.execMulU64S64U16 s
  | .mulU64S64S16 => Sys2Proof.Machine.execMulU64S64S16 s
  | .mulU64S64U32 => Sys2Proof.Machine.execMulU64S64U32 s
  | .mulU64S64S32 => Sys2Proof.Machine.execMulU64S64S32 s
  | .mulU64S64U64 => Sys2Proof.Machine.execMulU64S64U64 s
  | .mulU64S64S64 => Sys2Proof.Machine.execMulU64S64S64 s
  | .mulS64U16U16 => Sys2Proof.Machine.execMulS64U16U16 s
  | .mulS64U16S16 => Sys2Proof.Machine.execMulS64U16S16 s
  | .mulS64U16U32 => Sys2Proof.Machine.execMulS64U16U32 s
  | .mulS64U16S32 => Sys2Proof.Machine.execMulS64U16S32 s
  | .mulS64U16U64 => Sys2Proof.Machine.execMulS64U16U64 s
  | .mulS64U16S64 => Sys2Proof.Machine.execMulS64U16S64 s
  | .mulS64S16U16 => Sys2Proof.Machine.execMulS64S16U16 s
  | .mulS64S16S16 => Sys2Proof.Machine.execMulS64S16S16 s
  | .mulS64S16U32 => Sys2Proof.Machine.execMulS64S16U32 s
  | .mulS64S16S32 => Sys2Proof.Machine.execMulS64S16S32 s
  | .mulS64S16U64 => Sys2Proof.Machine.execMulS64S16U64 s
  | .mulS64S16S64 => Sys2Proof.Machine.execMulS64S16S64 s
  | .mulS64U32U16 => Sys2Proof.Machine.execMulS64U32U16 s
  | .mulS64U32S16 => Sys2Proof.Machine.execMulS64U32S16 s
  | .mulS64U32U32 => Sys2Proof.Machine.execMulS64U32U32 s
  | .mulS64U32S32 => Sys2Proof.Machine.execMulS64U32S32 s
  | .mulS64U32U64 => Sys2Proof.Machine.execMulS64U32U64 s
  | .mulS64U32S64 => Sys2Proof.Machine.execMulS64U32S64 s
  | .mulS64S32U16 => Sys2Proof.Machine.execMulS64S32U16 s
  | .mulS64S32S16 => Sys2Proof.Machine.execMulS64S32S16 s
  | .mulS64S32U32 => Sys2Proof.Machine.execMulS64S32U32 s
  | .mulS64S32S32 => Sys2Proof.Machine.execMulS64S32S32 s
  | .mulS64S32U64 => Sys2Proof.Machine.execMulS64S32U64 s
  | .mulS64S32S64 => Sys2Proof.Machine.execMulS64S32S64 s
  | .mulS64U64U16 => Sys2Proof.Machine.execMulS64U64U16 s
  | .mulS64U64S16 => Sys2Proof.Machine.execMulS64U64S16 s
  | .mulS64U64U32 => Sys2Proof.Machine.execMulS64U64U32 s
  | .mulS64U64S32 => Sys2Proof.Machine.execMulS64U64S32 s
  | .mulS64U64U64 => Sys2Proof.Machine.execMulS64U64U64 s
  | .mulS64U64S64 => Sys2Proof.Machine.execMulS64U64S64 s
  | .mulS64S64U16 => Sys2Proof.Machine.execMulS64S64U16 s
  | .mulS64S64S16 => Sys2Proof.Machine.execMulS64S64S16 s
  | .mulS64S64U32 => Sys2Proof.Machine.execMulS64S64U32 s
  | .mulS64S64S32 => Sys2Proof.Machine.execMulS64S64S32 s
  | .mulS64S64U64 => Sys2Proof.Machine.execMulS64S64U64 s
  | .mulS64S64S64 => Sys2Proof.Machine.execMulS64S64S64 s
  | .mulwU32U32 => Sys2Proof.Machine.execMulwU32U32 s
  | .mulwU32S32 => Sys2Proof.Machine.execMulwU32S32 s
  | .mulwS32U32 => Sys2Proof.Machine.execMulwS32U32 s
  | .mulwS32S32 => Sys2Proof.Machine.execMulwS32S32 s
  | .muldivU32U32U32U16 => Sys2Proof.Machine.execMuldivU32U32U32U16 s
  | .muldivU32U32U32S16 => Sys2Proof.Machine.execMuldivU32U32U32S16 s
  | .muldivU32U32U32U32 => Sys2Proof.Machine.execMuldivU32U32U32U32 s
  | .muldivU32U32U32S32 => Sys2Proof.Machine.execMuldivU32U32U32S32 s
  | .muldivU32U32S32U16 => Sys2Proof.Machine.execMuldivU32U32S32U16 s
  | .muldivU32U32S32S16 => Sys2Proof.Machine.execMuldivU32U32S32S16 s
  | .muldivU32U32S32U32 => Sys2Proof.Machine.execMuldivU32U32S32U32 s
  | .muldivU32U32S32S32 => Sys2Proof.Machine.execMuldivU32U32S32S32 s
  | .muldivU32S32U32U16 => Sys2Proof.Machine.execMuldivU32S32U32U16 s
  | .muldivU32S32U32S16 => Sys2Proof.Machine.execMuldivU32S32U32S16 s
  | .muldivU32S32U32U32 => Sys2Proof.Machine.execMuldivU32S32U32U32 s
  | .muldivU32S32U32S32 => Sys2Proof.Machine.execMuldivU32S32U32S32 s
  | .muldivU32S32S32U16 => Sys2Proof.Machine.execMuldivU32S32S32U16 s
  | .muldivU32S32S32S16 => Sys2Proof.Machine.execMuldivU32S32S32S16 s
  | .muldivU32S32S32U32 => Sys2Proof.Machine.execMuldivU32S32S32U32 s
  | .muldivU32S32S32S32 => Sys2Proof.Machine.execMuldivU32S32S32S32 s
  | .muldivS32U32U32U16 => Sys2Proof.Machine.execMuldivS32U32U32U16 s
  | .muldivS32U32U32S16 => Sys2Proof.Machine.execMuldivS32U32U32S16 s
  | .muldivS32U32U32U32 => Sys2Proof.Machine.execMuldivS32U32U32U32 s
  | .muldivS32U32U32S32 => Sys2Proof.Machine.execMuldivS32U32U32S32 s
  | .muldivS32U32S32U16 => Sys2Proof.Machine.execMuldivS32U32S32U16 s
  | .muldivS32U32S32S16 => Sys2Proof.Machine.execMuldivS32U32S32S16 s
  | .muldivS32U32S32U32 => Sys2Proof.Machine.execMuldivS32U32S32U32 s
  | .muldivS32U32S32S32 => Sys2Proof.Machine.execMuldivS32U32S32S32 s
  | .muldivS32S32U32U16 => Sys2Proof.Machine.execMuldivS32S32U32U16 s
  | .muldivS32S32U32S16 => Sys2Proof.Machine.execMuldivS32S32U32S16 s
  | .muldivS32S32U32U32 => Sys2Proof.Machine.execMuldivS32S32U32U32 s
  | .muldivS32S32U32S32 => Sys2Proof.Machine.execMuldivS32S32U32S32 s
  | .muldivS32S32S32U16 => Sys2Proof.Machine.execMuldivS32S32S32U16 s
  | .muldivS32S32S32S16 => Sys2Proof.Machine.execMuldivS32S32S32S16 s
  | .muldivS32S32S32U32 => Sys2Proof.Machine.execMuldivS32S32S32U32 s
  | .muldivS32S32S32S32 => Sys2Proof.Machine.execMuldivS32S32S32S32 s
  | .limU16U16 => Sys2Proof.Machine.execLimU16U16 s
  | .limU16S16 => Sys2Proof.Machine.execLimU16S16 s
  | .limU16U32 => Sys2Proof.Machine.execLimU16U32 s
  | .limU16S32 => Sys2Proof.Machine.execLimU16S32 s
  | .limU16U64 => Sys2Proof.Machine.execLimU16U64 s
  | .limU16S64 => Sys2Proof.Machine.execLimU16S64 s
  | .limS16U16 => Sys2Proof.Machine.execLimS16U16 s
  | .limS16S16 => Sys2Proof.Machine.execLimS16S16 s
  | .limS16U32 => Sys2Proof.Machine.execLimS16U32 s
  | .limS16S32 => Sys2Proof.Machine.execLimS16S32 s
  | .limS16U64 => Sys2Proof.Machine.execLimS16U64 s
  | .limS16S64 => Sys2Proof.Machine.execLimS16S64 s
  | .limU32U16 => Sys2Proof.Machine.execLimU32U16 s
  | .limU32S16 => Sys2Proof.Machine.execLimU32S16 s
  | .limU32U32 => Sys2Proof.Machine.execLimU32U32 s
  | .limU32S32 => Sys2Proof.Machine.execLimU32S32 s
  | .limU32U64 => Sys2Proof.Machine.execLimU32U64 s
  | .limU32S64 => Sys2Proof.Machine.execLimU32S64 s
  | .limS32U16 => Sys2Proof.Machine.execLimS32U16 s
  | .limS32S16 => Sys2Proof.Machine.execLimS32S16 s
  | .limS32U32 => Sys2Proof.Machine.execLimS32U32 s
  | .limS32S32 => Sys2Proof.Machine.execLimS32S32 s
  | .limS32U64 => Sys2Proof.Machine.execLimS32U64 s
  | .limS32S64 => Sys2Proof.Machine.execLimS32S64 s
  | .limU64U16 => Sys2Proof.Machine.execLimU64U16 s
  | .limU64S16 => Sys2Proof.Machine.execLimU64S16 s
  | .limU64U32 => Sys2Proof.Machine.execLimU64U32 s
  | .limU64S32 => Sys2Proof.Machine.execLimU64S32 s
  | .limU64U64 => Sys2Proof.Machine.execLimU64U64 s
  | .limU64S64 => Sys2Proof.Machine.execLimU64S64 s
  | .limS64U16 => Sys2Proof.Machine.execLimS64U16 s
  | .limS64S16 => Sys2Proof.Machine.execLimS64S16 s
  | .limS64U32 => Sys2Proof.Machine.execLimS64U32 s
  | .limS64S32 => Sys2Proof.Machine.execLimS64S32 s
  | .limS64U64 => Sys2Proof.Machine.execLimS64U64 s
  | .limS64S64 => Sys2Proof.Machine.execLimS64S64 s
  | .dsearchU16 => Sys2Proof.Machine.execDsearchU16 s
  | .dsearchS16 => Sys2Proof.Machine.execDsearchS16 s
  | .curveU16 => Sys2Proof.Machine.execCurveU16 s
  | .curveS16 => Sys2Proof.Machine.execCurveS16 s
  | .mapU16 => Sys2Proof.Machine.execMapU16 s
  | .mapS16 => Sys2Proof.Machine.execMapS16 s
  | .mapgU16 => Sys2Proof.Machine.execMapgU16 s
  | .mapgS16 => Sys2Proof.Machine.execMapgS16 s
  | .savgU16 => Sys2Proof.Machine.execSavgU16 s
  | .savgS16 => Sys2Proof.Machine.execSavgS16 s
  | .deb => Sys2Proof.Machine.execDeb s
  | .tstart => Sys2Proof.Machine.execTstart s
  | .telapsed => Sys2Proof.Machine.execTelapsed s
  | .tisstopped => Sys2Proof.Machine.execTisstopped s
  | .tstop => Sys2Proof.Machine.execTstop s
  | .crc8 => Sys2Proof.Machine.execCrc8 s

end Sys2Proof.Machine
end

