-- ==== Sys2Proof/Machine/Flags.lean ====
section
/-! DEFINITION. The STATUS word (10_state R24). FROST-CORE has no arithmetic flags (10_state R25): no operation computes
a carry, zero, overflow or saturation indication, and this file is all the flag computation there is. -/

namespace Sys2Proof.Machine

/-- The code of STATUS.ERR (10_state R24, 60_exceptions R287). -/
def ErrCode.code : ErrCode → BitVec 4
  | .none => 0
  | .illegal => 1
  | .precond => 2
  | .misaligned => 3
  | .busErr => 4

/-- STATUS: BUSY in bit 0, ERR in bits 7:4, every other bit 0 (10_state R24). -/
def statusWord (s : State) : BitVec 32 :=
  0#24 ++ s.err.code ++ 0#3 ++ BitVec.ofBool s.busy

end Sys2Proof.Machine
end

