-- ==== Sys2Proof/Machine/HostPort.lean ====
section
/-! DEFINITION. The host's side: its accesses to the register block (10_state R21 to R32, 70 R320, R321) and to memory
(30_encoding R90, 20_memory R71). -/

namespace Sys2Proof.Machine

/-! ## The register block -/

/-- P_BASE (00_scope R8): 256-byte aligned. -/
def pBase (p : Config.Params) : BitVec 32 := p.baseBlock ++ 0#8

/-- The access reaches the 64 words at P_BASE (10_state R21, R34). Any other access is not this unit's (log entry 13). -/
def reachesBlock (p : Config.Params) (addr : BitVec 32) (bytes : Nat) : Bool :=
  (decide ((pBase p).toNat ≤ addr.toNat) && decide (addr.toNat < (pBase p).toNat + 256)) ||
    (decide (addr.toNat < (pBase p).toNat) && decide ((pBase p).toNat < addr.toNat + bytes))

/-- A 32-bit access at an offset that is a multiple of 4, the only one with a defined effect (10_state R21, R22). -/
def properAccess (addr : BitVec 32) (bytes : Nat) : Bool := bytes == 4 && addr.toNat % 4 == 0

/-- Offset of an address in the register block. -/
def offsetOf (p : Config.Params) (addr : BitVec 32) : Nat := addr.toNat - (pBase p).toNat

/-- Bits 31:0 and 63:32 of a 64-bit register (20_memory R52). -/
def lowHalf (r : BitVec 64) : BitVec 32 := r.extractLsb' 0 32
def highHalf (r : BitVec 64) : BitVec 32 := r.extractLsb' 32 32

/-- A 64-bit register with one half written. -/
def withLow (r : BitVec 64) (v : BitVec 32) : BitVec 64 := highHalf r ++ v
def withHigh (r : BitVec 64) (v : BitVec 32) : BitVec 64 := v ++ lowHalf r

/-- HOST_PROTOCOL is recorded (70 R321). -/
def State.recordProtocol (s : State) : State := { s with protocolFault := true }

/-- A host write of a register (10_state R21): CMD starts a command while BUSY = 0 (R30) and is lost while BUSY = 1
(70 R321); the operand halves are written at any time (R30); every other offset ignores writes (R22). -/
def writeReg (s : State) (off : Nat) (v : BitVec 32) : State :=
  if off = 0x00 then (if s.busy then s.recordProtocol else accept s v)
  else if off = 0x08 then { s with opa := withLow s.opa v }
  else if off = 0x0C then { s with opa := withHigh s.opa v }
  else if off = 0x10 then { s with opb := withLow s.opb v }
  else if off = 0x14 then { s with opb := withHigh s.opb v }
  else if off = 0x18 then { s with opc := withLow s.opc v }
  else if off = 0x1C then { s with opc := withHigh s.opc v }
  else s

/-- The offsets of RES_LO and RES_HI. -/
def isResOffset (off : Nat) : Bool := off == 0x20 || off == 0x24

/-- What a host read of a register returns (10_state R21 to R26): reserved offsets read 0, RES while BUSY = 1 reads any
value (R32). -/
def readReg (s : State) (off : Nat) : BitVec 32 :=
  if off = 0x00 then s.cmd
  else if off = 0x04 then statusWord s
  else if off = 0x08 then lowHalf s.opa
  else if off = 0x0C then highHalf s.opa
  else if off = 0x10 then lowHalf s.opb
  else if off = 0x14 then highHalf s.opb
  else if off = 0x18 then lowHalf s.opc
  else if off = 0x1C then highHalf s.opc
  else if off = 0x20 then (if s.busy then Config.freeBusyRead s.draws else lowHalf s.res)
  else if off = 0x24 then (if s.busy then Config.freeBusyRead s.draws else highHalf s.res)
  else 0

/-- A value reaches the host (70 R332). -/
def State.returnRead (s : State) (addr v : BitVec 32) : State := { s with hostReads := { addr, value := v } :: s.hostReads }

/-- The host writes the register bus. An access of another width or alignment is HOST_PROTOCOL (70 R320). -/
def hostRegWrite (s : State) (addr : BitVec 32) (bytes : Nat) (v : BitVec 32) : Host.Outcome State Fault Refusal :=
  if ¬ reachesBlock s.params addr bytes then .next s
  else if ¬ properAccess addr bytes then .fault .hostProtocol
  else .next (writeReg s (offsetOf s.params addr) v)

/-- The host reads the register bus; reading has no side effect on the unit (10_state R26), but for the free value drawn
where RES is read while BUSY = 1 (R32). -/
def hostRegRead (s : State) (addr : BitVec 32) (bytes : Nat) : Host.Outcome State Fault Refusal :=
  if ¬ reachesBlock s.params addr bytes then .next s
  else if ¬ properAccess addr bytes then .fault .hostProtocol
  else
    let off := offsetOf s.params addr
    let s' := s.returnRead addr (readReg s off)
    .next (if s.busy && isResOffset off then s'.drawn else s')

/-! ## Memory -/

/-- The running command has made an access to these bytes, a write where only writes count. -/
def doneTouches (s : State) (a : Nat) (n : Size) (writesOnly : Bool) : Bool :=
  s.progress.any fun x => overlaps a n x.addr x.size && (x.isWrite || !writesOnly)

/-- A host access to memory while BUSY = 1 is kept for the accesses the command has yet to make, and records RACE where
it meets one already made: a write meets reads and writes, a read meets writes (20_memory R71, 70 R322). -/
def State.hostTouches (s : State) (a : Nat) (n : Size) (isWrite : Bool) (value : BitVec 32) : State :=
  if s.busy then
    { s with
      hostTouch := s.hostTouch ++
        [{ addr := a, size := n, isWrite := isWrite, value := value, old := loadMem s.mem a n, done := s.progress.length }]
      raceFault := s.raceFault || doneTouches s a n (!isWrite) }
  else s

/-- The host or another bus master writes memory (30_encoding R90). -/
def hostMemWrite (s : State) (a : Nat) (n : Size) (v : BitVec 32) : Host.Outcome State Fault Refusal :=
  if inRange a n then .next ((s.hostTouches a n true v).setMem (storeMem s.mem a n v))
  else .fault .outsideMemory

/-- The running command's writes that share a byte with a host read. -/
def unitWrites (s : State) (a : Nat) (n : Size) : List Access :=
  s.progress.filter fun x => x.isWrite && overlaps a n x.addr x.size

/-- The host or another bus master reads memory (30_encoding R90). A read that races with the running command's writes
sees each access involved or not, which ones being free (20_memory R71, 70 R322). -/
def hostMemRead (s : State) (addr : BitVec 32) (n : Size) : Host.Outcome State Fault Refusal :=
  if inRange addr.toNat n then
    let s' := s.hostTouches addr.toNat n false 0
    if (unitWrites s addr.toNat n).isEmpty then .next (s'.returnRead addr (loadMem s.mem addr.toNat n))
    else
      .next (s'.drawn.returnRead addr (racingValue s addr.toNat n (freeForHost (writesOver s addr.toNat n))))
  else .fault .outsideMemory

end Sys2Proof.Machine
end

