-- ==== Sys2Proof/Machine/Unit.lean ====
section
/-! DEFINITION. The unit's turn, reset, and what each outside action does: all that `step` calls. -/

namespace Sys2Proof.Machine

/-- The unit takes a turn of at most `g` internal steps (70 R330): the latched word's command goes on (10_state R28, R31),
and an idle unit does nothing (60 R301). -/
def unitTurn (g : Option Nat) (s : State) : Host.Outcome State Fault Refusal :=
  if s.busy then
    match decodeWord s.cmdL with
    | .ok i => exec i { s with grant := g }
    | .error _ => .refused .noOperation
  else .next s

/-- Every register and hidden register at its reset value, the running command abandoned (10_state R35, 70 R310); memory
is not written (70 R311), and a recorded host fault is never cleared (70 R320). -/
def State.clearRegs (s : State) : State :=
  { s with
    cmd := 0, busy := false, err := .none, opa := 0, opb := 0, opc := 0, res := 0
    cmdL := 0, aL := 0, bL := 0, cL := 0, progress := [], grant := none, hostTouch := [] }

/-- Reset (70 R310). A port access in flight completes or has no effect; with `inFlight` the running command's next
access completes before the registers clear (log entry 14). DESIGN CHOICE, unsafe: reset is one action without an interval
in which it is asserted, and what a host access does in such an interval is not modelled (log entry 23). -/
def resetUnit (inFlight : Bool) (s : State) : Host.Outcome State Fault Refusal :=
  if inFlight then
    match unitTurn (some 1) s with
    | .next s' => .next s'.clearRegs
    | .fault f => .fault f
    | .refused r => .refused r
  else .next s.clearRegs

/-- Power is lost and comes back, and reset follows: the registers clear (60 R301) and memory holds a new draw (70 R311).
DESIGN CHOICE: one action, log entry 24. -/
def powerCycle (s : State) : State :=
  { s.clearRegs with mem := powerOnMemory s.draws, draws := s.draws + 1 }

/-- What an outside action does. -/
def act (i : Input) (s : State) : Host.Outcome State Fault Refusal :=
  match i with
  | .regWrite addr bytes v => hostRegWrite s addr bytes v
  | .regRead addr bytes => hostRegRead s addr bytes
  | .memWrite addr n v => hostMemWrite s addr.toNat n v
  | .memRead addr n => hostMemRead s addr n
  | .setPlatform regions => .next { s with platform := regions }
  | .reset inFlight => resetUnit inFlight s
  | .powerCycle => .next (powerCycle s)
  | .unitTurn g => unitTurn g s

/-- The next action happens; with none left only the unit can move, and it runs to its command's end (70 R331). -/
def stepOnce (s : State) : Host.Outcome State Fault Refusal :=
  match s.inputs with
  | [] => unitTurn none s
  | i :: rest => act i { s with inputs := rest }

/-- The host has just written the word to CMD of the idle unit, which accepted it (10_state R30), and the unit's turn
comes next. Log entry 3. -/
def presentWord (s : State) (w : BitVec 32) : State :=
  { accept { s with busy := false } w with inputs := .unitTurn none :: s.inputs }

end Sys2Proof.Machine
end

