-- ==== Sys2Proof/Machine/Step.lean ====
section
/-! DEFINITION. One step of the machine, and the placing of a command where the next step runs it. -/

namespace Sys2Proof.Machine

/-- One step: the next outside action, or the unit's running on (INVENTORY.md, Agents). -/
def step (s : State) : Host.Outcome State Fault Refusal := stepOnce s

/-- `s` with a command word accepted and the unit to move (log entry 3). -/
def State.withFetchWord (s : State) (nbits w : Nat) : State := presentWord s (BitVec.ofNat 32 (w % 2 ^ nbits))

end Sys2Proof.Machine
end

