-- ==== Sys2Proof/Safety.lean ====
section
/-! DEFINITION. What a good state and a good run are, in the terms the statements use: the machine's invariant, the clean
entry state (70 R313), a finished run (70 R332), and when the port answers an access without an error. -/

namespace Sys2Proof.Machine

/-- What holds of every state that a run from a good state reaches: memory keeps its canonical form inside the 2^32
addresses; `cmd_l` is the copy of CMD (10_state R28); while BUSY = 1 the latched word is legal and ERR is NONE (R30,
70 R324); while BUSY = 0 no command is in progress. -/
def Inv (s : State) : Bool :=
  s.mem.wf && s.mem.inSpace && s.cmd == s.cmdL &&
    (if s.busy then legal s.cmdL && s.err == .none else s.progress == [] && s.hostTouch == [])

/-- The clean entry state of 70 R313, in any memory. -/
def CleanEntry (s : State) : Bool :=
  statusWord s == 0 && s.cmd == 0 && s.res == 0 && s.progress == [] && !s.protocolFault && !s.raceFault

/-- A finished run (70 R332): nothing is to come, the unit is idle and no host fault was recorded. -/
def Finished (s : State) : Bool := s.inputs == [] && !s.busy && !s.protocolFault && !s.raceFault

/-- The platform lets the unit read these bytes: in range, no device, no bus error (20_memory R55, R56, R58). -/
def readable (s : State) (a : Nat) (n : Size) : Bool :=
  inRange a n && !hitsRegion s.platform a n RegionKind.isDevice && !hitsRegion s.platform a n RegionKind.failsRead

/-- The platform lets the unit write these bytes. -/
def writable (s : State) (a : Nat) (n : Size) : Bool :=
  inRange a n && !hitsRegion s.platform a n RegionKind.isDevice && !hitsRegion s.platform a n RegionKind.failsWrite

/-- The unit is about to run a command from its start to its end with no host access to memory in between. -/
def Undisturbed (s : State) : Bool := s.progress == [] && s.grant == none && s.hostTouch == []

/-! ## The states a command ends in, field by field -/

/-- What a command that ended normally leaves of `s`: RES holds the result (10_state R31), memory is `m`, the unit is idle
with nothing in progress, and every other field, ERR among them, is as it was. -/
def Completed (s : State) (m : Memory) (r : Int) : State :=
  { s with mem := m, res := enc64 r, busy := false, progress := [], hostTouch := [] }

/-- What a command that ended with an error leaves of `s` (60_exceptions R281): ERR holds the code, RES any value, memory
is `m`, the unit is idle, and every other field is as it was. -/
def Errored (s : State) (m : Memory) (e : ErrCode) : State :=
  { s with
    mem := m, err := e, res := Config.freeRes s.draws, draws := s.draws + 1, busy := false, progress := []
    hostTouch := [] }

/-- `q` is `v`, or the bound of `t` nearest to it where `v` is outside the range (00_scope R11, 40_division R103). -/
def Nearest (t : Ty) (v q : Int) : Prop :=
  (v < t.min → q = t.min) ∧ (t.max < v → q = t.max) ∧ (t.min ≤ v → v ≤ t.max → q = v)

/-! ## Tables as memory holds them -/

/-- The halfwords `0 .. n - 1` from `a` are readable, each by its own access (20_memory R54). -/
def elemsReadable (s : State) (a n : Nat) : Prop := ∀ k, k < n → readable s (a + 2 * k) .b2 = true

/-- The halfword at `a` as an unsigned number: a count (20_memory R64 to R67). -/
def countAt (m : Memory) (a : Nat) : Nat := (loadMem m a .b2).toNat

/-- Element `k` of the array at `a` (00_scope R14). -/
def elemAt (m : Memory) (a : Nat) (et : Elem) (k : Nat) : Int := elemVal et (loadMem m (a + 2 * k) .b2)

/-- The `n` elements of the array at `a` (20_memory R64 to R66). -/
def tableElems (m : Memory) (a : Nat) (et : Elem) (n : Nat) : List Int :=
  (List.range n).map fun k => elemVal et (loadMem m (a + 2 * k) .b2)

/-- `j` and `r` are what a search for `x` in `d` returns (43_search_interp R160, R161, R163): both 0 at or below the first
knot; the last index and 0 at or above the last; else the last `j` with `d_j <= x`, and the ratio rounded down. -/
def Bracket (x : Int) (d : List Int) (j r : Nat) : Prop :=
  (x ≤ d.getD 0 0 → j = 0 ∧ r = 0) ∧
  (d.getD 0 0 < x → d.getD (d.length - 1) 0 ≤ x → j = d.length - 1 ∧ r = 0) ∧
  (d.getD 0 0 < x → x < d.getD (d.length - 1) 0 →
    j + 1 < d.length ∧ d.getD j 0 ≤ x ∧ x < d.getD (j + 1) 0 ∧ r < 32768 ∧
      (r : Int) = (x - d.getD j 0) * 32768 / (d.getD (j + 1) 0 - d.getD j 0))

/-- `z0 + sc((z1 - z0) * r)` (43_search_interp R186): floor of the 32768th part, or truncation toward zero. -/
def blendOf (p : Config.Params) (z0 z1 : Int) (r : Nat) : Int :=
  match p.mapBlendRound with
  | .shift => z0 + (z1 - z0) * (r : Int) / 32768
  | .trunc => z0 + ((z1 - z0) * (r : Int)).tdiv 32768

/-- `rowblend` over a row of z values (43_search_interp R186). -/
def rowOf (p : Config.Params) (z : Nat → Int) (iy ry : Nat) : Int :=
  if ry = 0 then z iy else blendOf p (z iy) (z (iy + 1)) ry

/-- `blend` over a grid of z values (43_search_interp R186). -/
def gridOf (p : Config.Params) (z : Nat → Nat → Int) (ix rx iy ry : Nat) : Int :=
  if rx = 0 then rowOf p (z ix) iy ry else blendOf p (rowOf p (z ix) iy ry) (rowOf p (z (ix + 1)) iy ry) rx

/-- `Z(i, j)` of the map record at `m` (20_memory R66). -/
def mapZ (mem : Memory) (m : Nat) (et : Elem) (nx ny i j : Nat) : Int :=
  elemAt mem (m + 4 + 2 * nx + 2 * ny) et (i * ny + j)

/-! ## Sliding-average records (44_sliding_average R204) -/

/-- The sum of the `n` samples of the record at `a`. -/
def bufSum (m : Memory) (a : Nat) (et : Elem) (n : Nat) : Int := (tableElems m (a + 8) et n).sum

/-- The invariant of R204: SUM is the sum of the samples mod 2^32, and CURSOR < N. -/
def ConsistentAverage (m : Memory) (a : Nat) (et : Elem) : Prop :=
  loadMem m a .b4 = BitVec.ofInt 32 (bufSum m a et (countAt m (a + 6))) ∧ countAt m (a + 4) < countAt m (a + 6)

/-! ## Which command does what (60_exceptions R283 to R287, 10_state R34) -/

/-- The record address a command checks, with its alignment (20_memory R53). -/
def recordAddr (f : Form) (s : State) : Option (Nat × Nat) :=
  match f with
  | .dsearch _ | .curve _ => some (addrOf s.bL, 2)
  | .map _ | .mapg _ => some (addrOf s.cL, 2)
  | .savg _ | .deb | .tstart | .telapsed | .tisstopped | .tstop => some (addrOf s.aL, 4)
  | .div .. | .mul .. | .mulw .. | .muldiv .. | .lim .. | .crc8 => none

/-- The first port access of a command: its address, its size, and whether it is a write; none where it makes none. -/
def firstAccess (f : Form) (s : State) : Option (Nat × Size × Bool) :=
  match f with
  | .dsearch _ | .curve _ => some (addrOf s.bL, .b2, false)
  | .map _ | .mapg _ => some (addrOf s.cL, .b2, false)
  | .savg _ | .deb | .telapsed | .tisstopped => some (addrOf s.aL, .b4, false)
  | .tstart | .tstop => some (addrOf s.aL, .b4, true)
  | .crc8 => if (low32 s.bL).toNat = 0 then none else some (addrOf s.aL, .b1, false)
  | .div .. | .mul .. | .mulw .. | .muldiv .. | .lim .. => none

/-- The commands that reach memory (10_state R34). -/
def reachesMemory : Form → Bool
  | .div .. | .mul .. | .mulw .. | .muldiv .. | .lim .. => false
  | .dsearch _ | .curve _ | .map _ | .mapg _ | .savg _ | .deb | .tstart | .telapsed | .tisstopped | .tstop
  | .crc8 => true

/-- The commands that write memory (10_state R34). -/
def writesMemory : Form → Bool
  | .savg _ | .deb | .tstart | .tstop => true
  | .div .. | .mul .. | .mulw .. | .muldiv .. | .lim .. | .dsearch _ | .curve _ | .map _ | .mapg _ | .telapsed
  | .tisstopped | .crc8 => false

/-- The commands that can end in an error code (60_exceptions R287). -/
def mayEnd (f : Form) (e : ErrCode) : Bool :=
  match e with
  | .none => true
  | .illegal => false
  | .precond =>
    match f with
    | .dsearch _ | .curve _ | .map _ | .mapg _ | .savg _ => true
    | _ => false
  | .misaligned => reachesMemory f && decide (f ≠ .crc8)
  | .busErr => reachesMemory f

end Sys2Proof.Machine
end

