-- ==== Sys2Proof/WellFormed.lean ====
section
/-! DEFINITION. Which commands are well formed: the admission table 30_encoding R82 said twice, once over forms and once
over the raw fields of a word as R84 defines `legal(w)`. The decoder uses neither. -/

namespace Sys2Proof

/-! ## Over forms (30_encoding R82) -/

/-- The sets `T32` and `T16_32` of R82. -/
def Ty.inT32 (t : Ty) : Bool := t.width == 32
def Ty.inT16or32 (t : Ty) : Bool := t.width ≤ 32

/-- A form is well formed when its row of R82 admits its types and the row's extra condition holds. -/
def Form.wf : Form → Bool
  | .div nt dt rt => dt.inT16or32 && rt.inT16or32 && (nt.width != 64 || (dt.inT32 && rt.inT32))
  | .mul xt yt rt => decide (rt.width ≤ Nat.max xt.width yt.width)
  | .mulw xt yt => xt.inT32 && yt.inT32
  | .muldiv xt yt zt rt => xt.inT32 && yt.inT32 && zt.inT32 && rt.inT16or32
  | .lim _ _ => true
  | .dsearch _ | .curve _ | .map _ | .mapg _ | .savg _ => true
  | .deb | .tstart | .telapsed | .tisstopped | .tstop | .crc8 => true

/-- A command is well formed when its form is. -/
def Instr.wf (i : Instr) : Bool := i.form.wf

/-! ## Over the fields of a word (30_encoding R80, R82, R84) -/

/-- The fields of a word as numbers (30_encoding R80). -/
structure Fields where
  op : Nat
  ta : Nat
  tb : Nat
  tc : Nat
  tr : Nat
  reserved : Nat
  deriving DecidableEq, Repr

/-- `w[7:0]`, `w[11:8]`, `w[15:12]`, `w[19:16]`, `w[23:20]` and `w[31:24]`. -/
def fieldsOf (w : BitVec 32) : Fields :=
  { op := w.toNat % 0x100
    ta := w.toNat / 0x100 % 0x10
    tb := w.toNat / 0x1000 % 0x10
    tc := w.toNat / 0x10000 % 0x10
    tr := w.toNat / 0x100000 % 0x10
    reserved := w.toNat / 0x1000000 }

/-- The type codes of `T6`, `T32`, `T16_32` and `ET`, and a field marked 0 (R82). -/
def isT6 (c : Nat) : Bool := 1 ≤ c && c ≤ 6
def isT32 (c : Nat) : Bool := c == 3 || c == 4
def isT16or32 (c : Nat) : Bool := 1 ≤ c && c ≤ 4
def isElem (c : Nat) : Bool := c == 1 || c == 2
def isUnused (c : Nat) : Bool := c == 0

/-- `W = 16 << ((code - 1) >> 1)` (R81). -/
def codeWidth (c : Nat) : Nat := 16 * 2 ^ ((c - 1) / 2)

/-- The row of R82 that OP selects, its extra condition, and no row for an unassigned OP (R83). -/
def rowAdmits (f : Fields) : Bool :=
  if f.op = 0x01 then
    isT6 f.ta && isT16or32 f.tb && isUnused f.tc && isT16or32 f.tr &&
      (codeWidth f.ta != 64 || (isT32 f.tb && isT32 f.tr))
  else if f.op = 0x02 then
    isT6 f.ta && isT6 f.tb && isUnused f.tc && isT6 f.tr &&
      decide (codeWidth f.tr ≤ Nat.max (codeWidth f.ta) (codeWidth f.tb))
  else if f.op = 0x03 then
    isT32 f.ta && isT32 f.tb && isUnused f.tc && (f.tr == if f.ta = 3 ∧ f.tb = 3 then 5 else 6)
  else if f.op = 0x04 then isT32 f.ta && isT32 f.tb && isT32 f.tc && isT16or32 f.tr
  else if f.op = 0x05 then isT6 f.ta && isUnused f.tb && isUnused f.tc && isT6 f.tr
  else if f.op = 0x10 ∨ f.op = 0x11 ∨ f.op = 0x12 ∨ f.op = 0x13 ∨ f.op = 0x20 then
    isElem f.ta && isUnused f.tb && isUnused f.tc && isUnused f.tr
  else if f.op = 0x21 ∨ f.op = 0x30 ∨ f.op = 0x31 ∨ f.op = 0x32 ∨ f.op = 0x33 ∨ f.op = 0x40 then
    isUnused f.ta && isUnused f.tb && isUnused f.tc && isUnused f.tr
  else false

/-- `legal(w)` as R84 states it: the reserved bits are 0 and the row of R82 admits the fields. -/
def legalFields (f : Fields) : Bool := f.reserved == 0 && rowAdmits f

end Sys2Proof
end

