-- ==== Sys2Proof/Certificates/Slice0/Obligations.lean ====
section
/-! DEFINITION. The statements for the provers, from the numbered rules of spec/. -/

open Sys2Proof Sys2Proof.Machine

/-! ## Encoding -/

/-- 30_encoding R84, R87: a word decodes to a command exactly when it is that command's word. Every field at every value:
no bit of the word is dropped and no two words share a command. -/
def Obligations.DecodeExactlyTheEncodedWord : Prop :=
  ∀ (w : BitVec 32) (i : Instr), decodeWord w = .ok i ↔ encode i = w

/-- 30_encoding R84: `legal(w)` is the conjunction R84 lists, over the fields of R80 and the rows of R82; and an accepted
CMD write of a word that is not legal ends as ILLEGAL. -/
def Obligations.LegalExactlyWhenAdmitted : Prop :=
  (∀ w : BitVec 32, legal w = legalFields (fieldsOf w)) ∧
  (∀ w : BitVec 32, legal w = true ↔ ∃ i, encode i = w) ∧
  (∀ (s : State) (w : BitVec 32), s.busy = false → legal w = false → (writeReg s 0x00 w).err = .illegal)

/-- 30_encoding R82: the forms R82 admits are those of the commands, and two commands never share a form. -/
def Obligations.AdmittedFormsAreTheCommands : Prop :=
  (∀ f : Form, f.wf = true ↔ ∃ i : Instr, i.form = f) ∧ ∀ i j : Instr, i.form = j.form → i = j

/-- 30_encoding R89, 95_test_vectors V-R: sample words, written out from their fields, decode to their commands. -/
def Obligations.SampleWordsDecode : Prop :=
  decodeWord 0x00404401 = .ok .divS32S32S32 ∧ decodeWord 0x00201202 = .ok .mulS16U16S16 ∧
  decodeWord 0x00503303 = .ok .mulwU32U32 ∧ decodeWord 0x00244404 = .ok .muldivS32S32S32S16 ∧
  decodeWord 0x00200405 = .ok .limS32S16 ∧ decodeWord 0x00000210 = .ok .dsearchS16 ∧
  decodeWord 0x00000111 = .ok .curveU16 ∧ decodeWord 0x00000112 = .ok .mapU16 ∧
  decodeWord 0x00000213 = .ok .mapgS16 ∧ decodeWord 0x00000220 = .ok .savgS16 ∧ decodeWord 0x00000021 = .ok .deb ∧
  decodeWord 0x00000031 = .ok .telapsed ∧ decodeWord 0x00000040 = .ok .crc8

/-- 30_encoding R87: a set reserved bit and an unassigned OP (R83) are refused by name, whatever the other fields. -/
def Obligations.IllegalWordsRejectedByName : Prop :=
  ∀ w : BitVec 32,
    (0x1000000 ≤ w.toNat → decodeWord w = .error .reservedBits) ∧
    (w.toNat < 0x1000000 →
      w.toNat % 0x100 ∉ [0x01, 0x02, 0x03, 0x04, 0x05, 0x10, 0x11, 0x12, 0x13, 0x20, 0x21, 0x30, 0x31, 0x32, 0x33, 0x40] →
      decodeWord w = .error .unassignedOp)

/-! ## Reset and the register block -/

/-- 10_state R35, 70 R310, R311: after reset every register and latch is 0 and the unit idle, from State.reset and from
any state; reset with no port access in flight writes no memory and touches nothing else. State.reset and a power cycle
(one action, log entry 24) hold a free draw of memory (log entry 4). -/
def Obligations.ResetClearsRegistersKeepsMemory : Prop :=
  CleanEntry State.reset = true ∧ State.reset.opa = 0 ∧ State.reset.opb = 0 ∧ State.reset.opc = 0 ∧
  State.reset.cmdL = 0 ∧ State.reset.aL = 0 ∧ State.reset.bL = 0 ∧ State.reset.cL = 0 ∧ State.reset.busy = false ∧
  State.reset.err = .none ∧ State.reset.mem = powerOnMemory 0 ∧
  (∀ (s : State) (rest : List Input), s.inputs = .reset false :: rest →
    step s = .next { s with
      cmd := 0, busy := false, err := .none, opa := 0, opb := 0, opc := 0, res := 0, cmdL := 0, aL := 0, bL := 0, cL := 0
      progress := [], grant := none, hostTouch := [], inputs := rest }) ∧
  ∀ (s : State) (rest : List Input), s.inputs = .powerCycle :: rest →
    step s = .next { s with
      cmd := 0, busy := false, err := .none, opa := 0, opb := 0, opc := 0, res := 0, cmdL := 0, aL := 0, bL := 0, cL := 0
      progress := [], grant := none, hostTouch := [], inputs := rest, mem := powerOnMemory s.draws, draws := s.draws + 1 }

/-- 70 R310: reset abandons the running command; the port access in flight completes or has no effect, and no write is
split. With no access in flight memory is as before. With one (log entry 14), memory is what one internal step of the unit
leaves: with the write that step makes stored whole, or as before where it makes none. -/
def Obligations.ResetNeverSplitsAWrite : Prop :=
  ∀ (s t : State) (b : Bool) (rest : List Input), s.inputs = .reset b :: rest → step s = .next t →
    t.busy = false ∧ t.err = .none ∧ t.cmd = 0 ∧ t.cmdL = 0 ∧ t.opa = 0 ∧ t.opb = 0 ∧ t.opc = 0 ∧ t.res = 0 ∧
    t.aL = 0 ∧ t.bL = 0 ∧ t.cL = 0 ∧ t.progress = [] ∧ t.inputs = rest ∧
    (b = false → t.mem = s.mem) ∧
    (b = true → ∃ u, unitTurn (some 1) { s with inputs := rest } = .next u ∧ t.mem = u.mem ∧
      (∀ x, u.progress = s.progress ++ [x] → x.isWrite = true →
        inRange x.addr x.size = true ∧ t.mem = storeMem s.mem x.addr x.size x.value) ∧
      ((¬ ∃ x, u.progress = s.progress ++ [x] ∧ x.isWrite = true) → t.mem = s.mem))

/-- 10_state R30, 60 R282, 70 R321: a 32-bit host write to CMD. While BUSY = 1 it is lost and HOST_PROTOCOL recorded;
while BUSY = 0 it latches the word and the operands, and starts a legal command or ends as ILLEGAL with RES and memory
unchanged. -/
def Obligations.CmdWriteStartsLosesOrRejects : Prop :=
  ∀ (s : State) (w : BitVec 32) (rest : List Input), s.inputs = .regWrite (pBase s.params) 4 w :: rest →
    (s.busy = true → step s = .next { s with inputs := rest, protocolFault := true }) ∧
    (s.busy = false → legal w = true →
      step s = .next { s with
        inputs := rest, cmd := w, cmdL := w, aL := s.opa, bL := s.opb, cL := s.opc, err := .none, busy := true
        progress := [], hostTouch := [] }) ∧
    (s.busy = false → legal w = false →
      step s = .next { s with
        inputs := rest, cmd := w, cmdL := w, aL := s.opa, bL := s.opb, cL := s.opc, err := .illegal })

/-- 10_state R21, R30, 70 R323: a host write to an operand half is performed whether or not BUSY = 1, and changes that
half only. -/
def Obligations.OperandHalfWrites : Prop :=
  ∀ (s : State) (off : Nat) (v : BitVec 32) (rest : List Input),
    off ∈ [0x08, 0x0C, 0x10, 0x14, 0x18, 0x1C] →
    s.inputs = .regWrite (pBase s.params + BitVec.ofNat 32 off) 4 v :: rest →
    ∃ a b c : BitVec 64, step s = .next { s with inputs := rest, opa := a, opb := b, opc := c } ∧
      a.toNat = (if off = 0x08 then s.opa.toNat / 2 ^ 32 * 2 ^ 32 + v.toNat
                 else if off = 0x0C then v.toNat * 2 ^ 32 + s.opa.toNat % 2 ^ 32 else s.opa.toNat) ∧
      b.toNat = (if off = 0x10 then s.opb.toNat / 2 ^ 32 * 2 ^ 32 + v.toNat
                 else if off = 0x14 then v.toNat * 2 ^ 32 + s.opb.toNat % 2 ^ 32 else s.opb.toNat) ∧
      c.toNat = (if off = 0x18 then s.opc.toNat / 2 ^ 32 * 2 ^ 32 + v.toNat
                 else if off = 0x1C then v.toNat * 2 ^ 32 + s.opc.toNat % 2 ^ 32 else s.opc.toNat)

/-- 10_state R21, R24, R26, R32: what a 32-bit host read of each register returns, the halves of a 64-bit register being
its bits 31:0 and 63:32; RES while BUSY = 1 is the free value, drawn anew; nothing else of the unit changes. -/
def Obligations.RegisterReads : Prop :=
  ∀ (s : State) (off : Nat) (rest : List Input), off < 256 → off % 4 = 0 →
    s.inputs = .regRead (pBase s.params + BitVec.ofNat 32 off) 4 :: rest →
    ∃ v : BitVec 32,
      step s = .next { s with
        inputs := rest
        hostReads := { addr := pBase s.params + BitVec.ofNat 32 off, value := v } :: s.hostReads
        draws := if s.busy = true ∧ (off = 0x20 ∨ off = 0x24) then s.draws + 1 else s.draws } ∧
      (off = 0x00 → v = s.cmd) ∧
      (off = 0x04 → v.toNat = (if s.busy then 1 else 0) + 16 * s.err.code.toNat) ∧
      (off = 0x08 → v.toNat = s.opa.toNat % 2 ^ 32) ∧ (off = 0x0C → v.toNat = s.opa.toNat / 2 ^ 32) ∧
      (off = 0x10 → v.toNat = s.opb.toNat % 2 ^ 32) ∧ (off = 0x14 → v.toNat = s.opb.toNat / 2 ^ 32) ∧
      (off = 0x18 → v.toNat = s.opc.toNat % 2 ^ 32) ∧ (off = 0x1C → v.toNat = s.opc.toNat / 2 ^ 32) ∧
      (off = 0x20 → s.busy = false → v.toNat = s.res.toNat % 2 ^ 32) ∧
      (off = 0x24 → s.busy = false → v.toNat = s.res.toNat / 2 ^ 32) ∧
      (off = 0x20 ∨ off = 0x24 → s.busy = true → v = Config.freeBusyRead s.draws) ∧
      (0x28 ≤ off → v = 0)

/-- 10_state R22, 70 R320: a host write to STATUS, RES or a reserved offset changes no state, a read of a reserved offset
returns 0, and an access narrower than 32 bits or at an offset that is no multiple of 4 is HOST_PROTOCOL. That such an
access stops the run as a fault, and that an access wider than 32 bits is treated alike, are the model's choice (log
entry 12). -/
def Obligations.ReadOnlyAndMalformedAccesses : Prop :=
  ∀ (s : State) (off : Nat) (v : BitVec 32) (bytes : Nat) (rest : List Input), off < 256 →
    (s.inputs = .regWrite (pBase s.params + BitVec.ofNat 32 off) 4 v :: rest → off % 4 = 0 →
      (off = 0x04 ∨ 0x20 ≤ off) → step s = .next { s with inputs := rest }) ∧
    (s.inputs = .regRead (pBase s.params + BitVec.ofNat 32 off) 4 :: rest → off % 4 = 0 → 0x28 ≤ off →
      step s = .next { s with
        inputs := rest, hostReads := { addr := pBase s.params + BitVec.ofNat 32 off, value := 0 } :: s.hostReads }) ∧
    (s.inputs = .regWrite (pBase s.params + BitVec.ofNat 32 off) bytes v :: rest → (bytes ≠ 4 ∨ off % 4 ≠ 0) →
      step s = .fault .hostProtocol) ∧
    (s.inputs = .regRead (pBase s.params + BitVec.ofNat 32 off) bytes :: rest → (bytes ≠ 4 ∨ off % 4 ≠ 0) →
      step s = .fault .hostProtocol)

/-- 10_state R24: STATUS has BUSY in bit 0, ERR in bits 7:4 with codes 0 to 4, and every other bit 0. -/
def Obligations.StatusWordLayout : Prop :=
  ∀ s : State,
    (statusWord s).getLsbD 0 = s.busy ∧ (statusWord s).extractLsb' 1 3 = 0 ∧
    (statusWord s).extractLsb' 4 4 = s.err.code ∧ (statusWord s).extractLsb' 8 24 = 0 ∧
    ErrCode.none.code = 0 ∧ ErrCode.illegal.code = 1 ∧ ErrCode.precond.code = 2 ∧ ErrCode.misaligned.code = 3 ∧
    ErrCode.busErr.code = 4 ∧ s.err.code.toNat < 5

/-! ## Steps -/

/-- A step runs the latched command (10_state R28, R31; log entry 3): with BUSY = 1 and `cmd_l` decoding to `i`, a unit turn
is `exec i`, and so is a step with no outside action left; and a presented word is run by the very next step. -/
def Obligations.StepRunsTheLatchedCommand : Prop :=
  (∀ (s : State) (i : Instr), s.busy = true → decodeWord s.cmdL = .ok i →
    (s.inputs = [] → step s = exec i { s with grant := none }) ∧
    (∀ g rest, s.inputs = .unitTurn g :: rest → step s = exec i { s with inputs := rest, grant := g })) ∧
  (∀ (s : State) (w : Nat) (i : Instr), decodeTableWord 32 w = some i →
    step (s.withFetchWord 32 w) = exec i { s with
      cmd := BitVec.ofNat 32 w, cmdL := BitVec.ofNat 32 w, aL := s.opa, bL := s.opb, cL := s.opc
      err := .none, busy := true, progress := [], hostTouch := [], grant := none })

/-- 60 R301: an idle unit does nothing until the next accepted CMD write. -/
def Obligations.IdleUnitDoesNothing : Prop :=
  ∀ s : State, s.busy = false →
    (s.inputs = [] → step s = .next s) ∧
    (∀ g rest, s.inputs = .unitTurn g :: rest → step s = .next { s with inputs := rest })

/-- 10_state R30, R31: what a running command does depends on the latched copies only: changing OPA, OPB, OPC and CMD under
it changes nothing but those registers. -/
def Obligations.RunningCommandReadsOnlyTheLatches : Prop :=
  ∀ (i : Instr) (s : State) (a b c : BitVec 64) (w : BitVec 32),
    exec i { s with opa := a, opb := b, opc := c, cmd := w } =
      match exec i s with
      | .next t => .next { t with opa := a, opb := b, opc := c, cmd := w }
      | .fault f => .fault f
      | .refused r => .refused r

/-- 10_state R23, R29, 20_memory R51: no command changes CMD, an operand register, a latch, a parameter, the platform's
map, the outside actions to come, what the host has read, or a recorded HOST_PROTOCOL. -/
def Obligations.NoCommandChangesItsSurroundings : Prop :=
  ∀ (i : Instr) (s t : State), exec i s = .next t →
    t.cmd = s.cmd ∧ t.opa = s.opa ∧ t.opb = s.opb ∧ t.opc = s.opc ∧ t.cmdL = s.cmdL ∧ t.aL = s.aL ∧ t.bL = s.bL ∧
    t.cL = s.cL ∧ t.params = s.params ∧ t.platform = s.platform ∧ t.inputs = s.inputs ∧ t.grant = s.grant ∧
    t.hostReads = s.hostReads ∧ t.protocolFault = s.protocolFault ∧ (s.raceFault = true → t.raceFault = true)

/-- 70 R331: every accepted command ends. Where the platform has no device with read side effects (20_memory R58), every
command's meaning gives a next state, and with the unit left to run that state is idle with nothing in progress. -/
def Obligations.EveryCommandEnds : Prop :=
  ∀ (i : Instr) (s : State), (∀ r ∈ s.platform, r.kind ≠ .device) →
    ∃ t, exec i s = .next t ∧ (s.grant = none → t.busy = false ∧ t.progress = [] ∧ t.hostTouch = [])

/-- 70 R330: no rule depends on timing. A command run for any number of internal steps and then, with nothing happening in
between, to its end, ends as it does when run at once. -/
def Obligations.SlicedRunEqualsWholeRun : Prop :=
  ∀ (i : Instr) (s : State) (k : Nat), s.busy = true →
    match exec i { s with grant := some k } with
    | .next t =>
      if t.busy then exec i { t with grant := none } = exec i { s with grant := none }
      else exec i { s with grant := none } = .next { t with grant := none }
    | .fault f => exec i { s with grant := none } = .fault f
    | .refused r => exec i { s with grant := none } = .refused r

/-- 60 R283 to R287: the error codes each command can end in (ILLEGAL never, and none for the arithmetic commands), that
RES is then a free value, and that PRECOND and MISALIGNED leave memory unchanged. -/
def Obligations.ErrorCodesOfEachCommand : Prop :=
  ∀ (i : Instr) (s t : State), s.err = .none → s.grant = none → s.progress = [] → exec i s = .next t →
    mayEnd i.form t.err = true ∧
    (t.err ≠ .none → ∃ k, t.res = Config.freeRes k) ∧
    (t.err = .precond ∨ t.err = .misaligned → t.mem = s.mem)

/-! ## Operand values and results -/

/-- 00_scope R11, R12: `val(r, T)` is the low W(T) bits, less 2^W(T) where T is signed and the top bit is set; the ranges of
the six types. -/
def Obligations.OperandExtraction : Prop :=
  (∀ (r : BitVec 64) (t : Ty),
    val r t = (r.toNat % 2 ^ t.width : Nat) - (if t.signed = true ∧ r.getLsbD (t.width - 1) = true then 2 ^ t.width else 0)) ∧
  Ty.u16.min = 0 ∧ Ty.u16.max = 65535 ∧ Ty.s16.min = -32768 ∧ Ty.s16.max = 32767 ∧
  Ty.u32.min = 0 ∧ Ty.u32.max = 4294967295 ∧ Ty.s32.min = -2147483648 ∧ Ty.s32.max = 2147483647 ∧
  Ty.u64.min = 0 ∧ Ty.u64.max = 18446744073709551615 ∧
  Ty.s64.min = -9223372036854775808 ∧ Ty.s64.max = 9223372036854775807

/-- 00_scope R12, 30_encoding R86: `enc64(v)` is `v mod 2^64`, a value of a type in its range is read back from the 64 bits
by that type, and the bits above W(T) are copies of the top bit for a signed type and 0 for an unsigned one. -/
def Obligations.ResultsReadBack : Prop :=
  (∀ v : Int, ((enc64 v).toNat : Int) = v % 2 ^ 64) ∧
  ∀ (t : Ty) (v : Int), t.min ≤ v → v ≤ t.max →
    val (enc64 v) t = v ∧
    ∀ k, t.width ≤ k → k < 64 → (enc64 v).getLsbD k = (t.signed && (enc64 v).getLsbD (t.width - 1))

/-! ## DIV -/

/-- 40_division R101, R102, R103: the 72 DIV commands complete, change nothing but RES and BUSY, and RES is: for a zero
divisor 1 in the one 0/0 case, else the bound by the sign of X; for any other divisor the quotient truncated toward zero
(00_scope R13, by sign and magnitude), or the bound nearest to it. R104's four variants with P_DIV_NEGOVF_MAX are in the
next statement. -/
def Obligations.DivisionResult : Prop :=
  ∀ (i : Instr) (nt dt rt : Ty) (s : State), i.form = .div nt dt rt → s.grant ≠ some 0 →
    ∃ q : Int, exec i s = .next (Completed s s.mem q) ∧
      (val s.bL dt = 0 → nt = .u64 ∧ dt = .u32 ∧ val s.aL nt = 0 → q = 1) ∧
      (val s.bL dt = 0 → ¬ (nt = .u64 ∧ dt = .u32 ∧ val s.aL nt = 0) → 0 ≤ val s.aL nt → q = rt.max) ∧
      (val s.bL dt = 0 → val s.aL nt < 0 → q = rt.min) ∧
      (val s.bL dt ≠ 0 →
        ¬ (s.params.divNegovfMax = true ∧ nt.signed = true ∧ val s.aL nt = nt.min ∧ val s.bL dt = -1 ∧
          rt.signed = false ∧ rt.width = nt.width) →
        Nearest rt ((val s.aL nt).sign * (val s.bL dt).sign * (((val s.aL nt).natAbs / (val s.bL dt).natAbs : Nat) : Int)) q)

/-- 40_division R104: X = min(NT) by Y = -1. The result is max(RT) where it is below 2^(W(NT)-1); 2^(W(NT)-1) where RT is
wider than NT; and for an unsigned RT of NT's width 2^(W(NT)-1), or max(RT) with P_DIV_NEGOVF_MAX. -/
def Obligations.DivisionNegationOverflow : Prop :=
  ∀ (i : Instr) (nt dt rt : Ty) (s : State), i.form = .div nt dt rt → s.grant ≠ some 0 →
    nt.signed = true → dt.signed = true → val s.aL nt = nt.min → val s.bL dt = -1 →
    exec i s = .next (Completed s s.mem
      (if rt.max < 2 ^ (nt.width - 1) then rt.max
       else if nt.width < rt.width then 2 ^ (nt.width - 1)
       else if s.params.divNegovfMax then rt.max else 2 ^ (nt.width - 1)))

/-- 40_division R106: the 64-by-32 unsigned quotient is `clamp(floor(X / Y), RT)`, and the source's restoring long division
gives that value for u32, and through a clamp for s32. -/
def Obligations.LongDivisionGivesTheQuotient : Prop :=
  (∀ x y : Nat, x < 2 ^ 64 → 0 < y → y < 2 ^ 32 → longDivide x y = Nat.min (x / y) 0xFFFFFFFF) ∧
  ∀ (i : Instr) (rt : Ty) (s : State), i.form = .div .u64 .u32 rt → s.grant ≠ some 0 → val s.bL .u32 ≠ 0 →
    ∃ q : Int, exec i s = .next (Completed s s.mem q) ∧
      Nearest rt ((s.aL.toNat / (low32 s.bL).toNat : Nat) : Int) q ∧
      Nearest rt ((longDivide s.aL.toNat (low32 s.bL).toNat : Nat) : Int) q

/-! ## MUL, MULW, MULDIV, LIM -/

/-- 41_multiplication R120, R121, R122: the 176 MUL commands complete, change nothing but RES and BUSY, and RES is the exact
product or the bound nearest to it; with P_MUL_MIXED_NEG_ZERO, a signed result type and a negative signed operand beside an
unsigned one it is 0. -/
def Obligations.MultiplicationResult : Prop :=
  ∀ (i : Instr) (xt yt rt : Ty) (s : State), i.form = .mul xt yt rt → s.grant ≠ some 0 →
    ∃ r : Int, exec i s = .next (Completed s s.mem r) ∧
      (s.params.mulMixedNegZero = true ∧ rt.signed = true ∧
          ((xt.signed = true ∧ yt.signed = false ∧ val s.aL xt < 0) ∨
            (xt.signed = false ∧ yt.signed = true ∧ val s.bL yt < 0)) → r = 0) ∧
      (¬ (s.params.mulMixedNegZero = true ∧ rt.signed = true ∧
          ((xt.signed = true ∧ yt.signed = false ∧ val s.aL xt < 0) ∨
            (xt.signed = false ∧ yt.signed = true ∧ val s.bL yt < 0))) →
        Nearest rt (val s.aL xt * val s.bL yt) r)

/-- 41_multiplication R124: the result of MUL is commutative in (X, AT) and (Y, BT). -/
def Obligations.MultiplicationCommutes : Prop :=
  ∀ (i j : Instr) (xt yt rt : Ty) (s : State), i.form = .mul xt yt rt → j.form = .mul yt xt rt → s.grant ≠ some 0 →
    ∃ r : Int, exec i s = .next (Completed s s.mem r) ∧
      exec j { s with aL := s.bL, bL := s.aL } = .next (Completed { s with aL := s.bL, bL := s.aL } s.mem r)

/-- 41_multiplication R125, R126: the four MULW commands complete, and RES read as the result type is the exact product:
it never saturates and never wraps. -/
def Obligations.WideningMultiplicationIsExact : Prop :=
  ∀ (i : Instr) (xt yt : Ty) (s : State), i.form = .mulw xt yt → s.grant ≠ some 0 →
    ∃ r : Int, exec i s = .next (Completed s s.mem r) ∧ r = val s.aL xt * val s.bL yt ∧
      val (enc64 r) (if xt = .u32 ∧ yt = .u32 then .u64 else .s64) = val s.aL xt * val s.bL yt

/-- 42_muldiv_limit R142, R143: the 32 MULDIV commands complete, change nothing but RES and BUSY, and RES is, for Z not 0,
`clamp(tdiv(X * Y, Z), RT)`, whatever P_DIV_NEGOVF_MAX; for Z = 0, 1 where all three types are u32 and the product is 0, else
max(RT) or min(RT) by the product's sign. -/
def Obligations.MultiplyDivideResult : Prop :=
  ∀ (i : Instr) (xt yt zt rt : Ty) (s : State), i.form = .muldiv xt yt zt rt → s.grant ≠ some 0 →
    ∃ r : Int, exec i s = .next (Completed s s.mem r) ∧
      (val s.cL zt ≠ 0 → Nearest rt ((val s.aL xt * val s.bL yt).tdiv (val s.cL zt)) r) ∧
      (val s.cL zt = 0 → xt = .u32 ∧ yt = .u32 ∧ zt = .u32 ∧ val s.aL xt * val s.bL yt = 0 → r = 1) ∧
      (val s.cL zt = 0 → ¬ (xt = .u32 ∧ yt = .u32 ∧ zt = .u32 ∧ val s.aL xt * val s.bL yt = 0) →
        0 ≤ val s.aL xt * val s.bL yt → r = rt.max) ∧
      (val s.cL zt = 0 → val s.aL xt * val s.bL yt < 0 → r = rt.min)

/-- 42_muldiv_limit R145: the 36 LIM commands complete, change nothing but RES and BUSY, and RES is X, or the bound of RT
nearest to it; for AT = RT it is X. -/
def Obligations.LimiterResult : Prop :=
  ∀ (i : Instr) (xt rt : Ty) (s : State), i.form = .lim xt rt → s.grant ≠ some 0 →
    ∃ r : Int, exec i s = .next (Completed s s.mem r) ∧ Nearest rt (val s.aL xt) r ∧ (xt = rt → r = val s.aL xt)

/-! ## DSEARCH, CURVE, MAP, MAPG -/

/-- 43_search_interp R160, R162, R163: DSEARCH on a readable record with N >= 2 knots that do not decrease completes and
leaves memory unchanged; RES is `i << 16 | r` for the bracketing index and the ratio, r < 32768. -/
def Obligations.DistributionSearchResult : Prop :=
  ∀ (i : Instr) (et : Elem) (s : State), i.form = .dsearch et → Undisturbed s = true → addrOf s.bL % 2 = 0 →
    elemsReadable s (addrOf s.bL) (countAt s.mem (addrOf s.bL) + 1) → 2 ≤ countAt s.mem (addrOf s.bL) →
    nonDecreasing (tableElems s.mem (addrOf s.bL + 2) et (countAt s.mem (addrOf s.bL))) = true →
    ∃ j r : Nat, exec i s = .next (Completed s s.mem ((j * 65536 + r : Nat) : Int)) ∧ r < 32768 ∧
      Bracket (val s.aL et.query) (tableElems s.mem (addrOf s.bL + 2) et (countAt s.mem (addrOf s.bL))) j r

/-- 43_search_interp R164, 60 R285: a distribution, a curve's x values or either distribution of a map with fewer than 2
knots or a decreasing pair ends the command with PRECOND, memory unchanged. -/
def Obligations.MalformedTablesRejected : Prop :=
  (∀ (i : Instr) (et : Elem) (s : State), (i.form = .dsearch et ∨ i.form = .curve et) → Undisturbed s = true →
    addrOf s.bL % 2 = 0 → elemsReadable s (addrOf s.bL) (countAt s.mem (addrOf s.bL) + 1) →
    (countAt s.mem (addrOf s.bL) < 2 ∨
      nonDecreasing (tableElems s.mem (addrOf s.bL + 2) et (countAt s.mem (addrOf s.bL))) = false) →
    exec i s = .next (Errored s s.mem .precond)) ∧
  (∀ (i : Instr) (et : Elem) (s : State), i.form = .map et → Undisturbed s = true → addrOf s.cL % 2 = 0 →
    elemsReadable s (addrOf s.cL) (2 + countAt s.mem (addrOf s.cL) + countAt s.mem (addrOf s.cL + 2)) →
    (countAt s.mem (addrOf s.cL) < 2 ∨ countAt s.mem (addrOf s.cL + 2) < 2 ∨
      nonDecreasing (tableElems s.mem (addrOf s.cL + 4) et (countAt s.mem (addrOf s.cL))) = false ∨
      nonDecreasing (tableElems s.mem (addrOf s.cL + 4 + 2 * countAt s.mem (addrOf s.cL)) et
        (countAt s.mem (addrOf s.cL + 2))) = false) →
    exec i s = .next (Errored s s.mem .precond))

/-- 43_search_interp R170, R172: CURVE on a readable record with a valid x axis completes and leaves memory unchanged; RES is
the first or last y outside the axis, else `y_i + tdiv((y_(i+1) - y_i)(X - x_i), x_(i+1) - x_i)` for the bracketing i. -/
def Obligations.CurveResult : Prop :=
  ∀ (i : Instr) (et : Elem) (s : State), i.form = .curve et → Undisturbed s = true → addrOf s.bL % 2 = 0 →
    elemsReadable s (addrOf s.bL) (2 * countAt s.mem (addrOf s.bL) + 1) → 2 ≤ countAt s.mem (addrOf s.bL) →
    nonDecreasing (tableElems s.mem (addrOf s.bL + 2) et (countAt s.mem (addrOf s.bL))) = true →
    ∃ (j r : Nat) (y : Int), exec i s = .next (Completed s s.mem y) ∧
      Bracket (val s.aL et.query) (tableElems s.mem (addrOf s.bL + 2) et (countAt s.mem (addrOf s.bL))) j r ∧
      (val s.aL et.query ≤ elemAt s.mem (addrOf s.bL + 2) et 0 ∨
          elemAt s.mem (addrOf s.bL + 2) et (countAt s.mem (addrOf s.bL) - 1) ≤ val s.aL et.query →
        y = elemAt s.mem (addrOf s.bL + 2 + 2 * countAt s.mem (addrOf s.bL)) et j) ∧
      (elemAt s.mem (addrOf s.bL + 2) et 0 < val s.aL et.query →
        val s.aL et.query < elemAt s.mem (addrOf s.bL + 2) et (countAt s.mem (addrOf s.bL) - 1) →
        y = elemAt s.mem (addrOf s.bL + 2 + 2 * countAt s.mem (addrOf s.bL)) et j +
          ((elemAt s.mem (addrOf s.bL + 2 + 2 * countAt s.mem (addrOf s.bL)) et (j + 1) -
              elemAt s.mem (addrOf s.bL + 2 + 2 * countAt s.mem (addrOf s.bL)) et j) *
            (val s.aL et.query - elemAt s.mem (addrOf s.bL + 2) et j)).tdiv
          (elemAt s.mem (addrOf s.bL + 2) et (j + 1) - elemAt s.mem (addrOf s.bL + 2) et j))

/-- 43_search_interp R171: between two knots of 16-bit values the curve's MULDIV never clamps, and the value lies between
the two y values, equal to y0 at the knot itself. -/
def Obligations.CurveStaysBetweenItsKnots : Prop :=
  ∀ (p : Config.Params) (y0 y1 x x0 x1 : Int), -32768 ≤ x0 → x0 ≤ x → x < x1 → x1 - x0 ≤ 65535 →
    -65535 ≤ y1 - y0 → y1 - y0 ≤ 65535 →
    mulDivide p .s32 .s32 .s32 .s32 (y1 - y0) (x - x0) (x1 - x0) = ((y1 - y0) * (x - x0)).tdiv (x1 - x0) ∧
    min y0 y1 ≤ y0 + mulDivide p .s32 .s32 .s32 .s32 (y1 - y0) (x - x0) (x1 - x0) ∧
    y0 + mulDivide p .s32 .s32 .s32 .s32 (y1 - y0) (x - x0) (x1 - x0) ≤ max y0 y1 ∧
    (x = x0 → y0 + mulDivide p .s32 .s32 .s32 .s32 (y1 - y0) (x - x0) (x1 - x0) = y0)

/-- 43_search_interp R180, R186: MAP on a readable record with valid axes completes and leaves memory unchanged; RES is the
blend of the z grid at the two bracketing indices and ratios. -/
def Obligations.MapResult : Prop :=
  ∀ (i : Instr) (et : Elem) (s : State) (m nx ny : Nat), i.form = .map et → Undisturbed s = true →
    m = addrOf s.cL → nx = countAt s.mem m → ny = countAt s.mem (m + 2) → m % 2 = 0 →
    elemsReadable s m (2 + nx + ny + nx * ny) → 2 ≤ nx → 2 ≤ ny →
    nonDecreasing (tableElems s.mem (m + 4) et nx) = true →
    nonDecreasing (tableElems s.mem (m + 4 + 2 * nx) et ny) = true →
    ∃ ix rx iy ry : Nat,
      exec i s = .next (Completed s s.mem (gridOf s.params (mapZ s.mem m et nx ny) ix rx iy ry)) ∧
      Bracket (val s.aL et.query) (tableElems s.mem (m + 4) et nx) ix rx ∧
      Bracket (val s.bL et.query) (tableElems s.mem (m + 4 + 2 * nx) et ny) iy ry

/-- 43_search_interp R185, R186, R188: MAPG with packed operands inside the grid completes and leaves memory unchanged; RES is
the blend of the z grid at the packed indices and ratios. -/
def Obligations.GroupedMapResult : Prop :=
  ∀ (i : Instr) (et : Elem) (s : State) (m nx ny : Nat), i.form = .mapg et → Undisturbed s = true →
    m = addrOf s.cL → nx = countAt s.mem m → ny = countAt s.mem (m + 2) → m % 2 = 0 →
    elemsReadable s m (2 + nx + ny + nx * ny) → 2 ≤ nx → 2 ≤ ny →
    low16 s.aL < 32768 → low16 s.bL < 32768 → high16 s.aL < nx → high16 s.bL < ny →
    (low16 s.aL ≠ 0 → high16 s.aL + 2 ≤ nx) → (low16 s.bL ≠ 0 → high16 s.bL + 2 ≤ ny) →
    exec i s = .next (Completed s s.mem
      (gridOf s.params (mapZ s.mem m et nx ny) (high16 s.aL) (low16 s.aL) (high16 s.bL) (low16 s.bL)))

/-- 43_search_interp R185, R188: MAPG with an axis of fewer than 2 knots, a ratio of 32768 or more, an index past its axis,
or a nonzero ratio with no next knot ends with PRECOND; only the two counts need be readable, no z element is read. -/
def Obligations.GroupedMapRejectsBadOperands : Prop :=
  ∀ (i : Instr) (et : Elem) (s : State) (m nx ny : Nat), i.form = .mapg et → Undisturbed s = true →
    m = addrOf s.cL → nx = countAt s.mem m → ny = countAt s.mem (m + 2) → m % 2 = 0 → elemsReadable s m 2 →
    (nx < 2 ∨ ny < 2 ∨ 32768 ≤ low16 s.aL ∨ 32768 ≤ low16 s.bL ∨ nx ≤ high16 s.aL ∨ ny ≤ high16 s.bL ∨
      (low16 s.aL ≠ 0 ∧ high16 s.aL = nx - 1) ∨ (low16 s.bL ≠ 0 ∧ high16 s.bL = ny - 1)) →
    exec i s = .next (Errored s s.mem .precond)

/-- 43_search_interp R181: MAP on (X, Y, M) gives what MAPG gives on (PX, PY, M), PX and PY being what DSEARCH gives for X
and Y over distribution records with the knots of the map's two axes. -/
def Obligations.MapEqualsTwoSearchesThenGroupedMap : Prop :=
  ∀ (i j k : Instr) (et : Elem) (s sx sy tx ty : State) (m nx ny : Nat),
    i.form = .map et → j.form = .dsearch et → k.form = .mapg et →
    Undisturbed s = true → m = addrOf s.cL → nx = countAt s.mem m → ny = countAt s.mem (m + 2) → m % 2 = 0 →
    elemsReadable s m (2 + nx + ny + nx * ny) → 2 ≤ nx → 2 ≤ ny →
    nonDecreasing (tableElems s.mem (m + 4) et nx) = true →
    nonDecreasing (tableElems s.mem (m + 4 + 2 * nx) et ny) = true →
    Undisturbed sx = true → sx.err = .none → countAt sx.mem (addrOf sx.bL) = nx →
    tableElems sx.mem (addrOf sx.bL + 2) et nx = tableElems s.mem (m + 4) et nx →
    val sx.aL et.query = val s.aL et.query → exec j sx = .next tx → tx.err = .none →
    Undisturbed sy = true → sy.err = .none → countAt sy.mem (addrOf sy.bL) = ny →
    tableElems sy.mem (addrOf sy.bL + 2) et ny = tableElems s.mem (m + 4 + 2 * nx) et ny →
    val sy.aL et.query = val s.bL et.query → exec j sy = .next ty → ty.err = .none →
    ∃ z : Int, exec i s = .next (Completed s s.mem z) ∧
      exec k { s with aL := tx.res, bL := ty.res } =
        .next (Completed { s with aL := tx.res, bL := ty.res } s.mem z)

/-- 43_search_interp R187, R189: one blend lies between its two values under either rounding; SHIFT rounds the blend term
down (floor), TRUNC toward zero. -/
def Obligations.BlendStaysBetweenItsValues : Prop :=
  ∀ (p : Config.Params) (z0 z1 : Int) (r : Nat), r < 32768 →
    min z0 z1 ≤ blendValue p z0 z1 r ∧ blendValue p z0 z1 r ≤ max z0 z1 ∧
    blendValue p z0 z1 r = blendOf p z0 z1 r ∧
    (p.mapBlendRound = .shift →
      (blendValue p z0 z1 r - z0) * 32768 ≤ (z1 - z0) * r ∧ (z1 - z0) * r < (blendValue p z0 z1 r - z0 + 1) * 32768)

/-! ## SAVG -/

/-- 44_sliding_average R200, R201, R205: SAVG on a record with CURSOR < N completes. SUM becomes (SUM - BUF[c] + s) mod 2^32, BUF[c]
the sample, CURSOR the next slot or 0 past the last; RES is the sample while cnt < maxc, else SUM / N truncated toward zero, SUM
read as u32 or s32; no byte but those eight at most changes. -/
def Obligations.SlidingAverageResult : Prop :=
  ∀ (i : Instr) (et : Elem) (s : State) (a c n : Nat) (sample : Int) (sum2 : BitVec 32), i.form = .savg et →
    Undisturbed s = true → a = addrOf s.aL → c = countAt s.mem (a + 4) → n = countAt s.mem (a + 6) →
    sample = val s.bL et.ty →
    sum2 = BitVec.ofInt 32 ((loadMem s.mem a .b4).toNat - elemAt s.mem (a + 8) et c + sample) →
    a % 4 = 0 → c < n →
    readable s a .b4 = true → readable s (a + 4) .b2 = true → readable s (a + 6) .b2 = true →
    readable s (a + 8 + 2 * c) .b2 = true →
    writable s a .b4 = true → writable s (a + 8 + 2 * c) .b2 = true → writable s (a + 4) .b2 = true →
    ∃ m : Memory,
      m = storeMem (storeMem (storeMem s.mem a .b4 sum2) (a + 8 + 2 * c) .b2 (BitVec.ofInt 32 (sample % 65536))) (a + 4) .b2
        (BitVec.ofNat 32 (if c + 1 = n then 0 else c + 1)) ∧
      exec i s = .next (Completed s m
        (if low16 s.cL < high16 s.cL then sample
         else ((match et with | .u16 => (sum2.toNat : Int) | .s16 => sum2.toInt).tdiv (n : Int)))) ∧
      ∀ b, ¬ (a ≤ b ∧ b < a + 6) → ¬ (a + 8 + 2 * c ≤ b ∧ b < a + 8 + 2 * c + 2) → readByte m b = readByte s.mem b

/-- 44_sliding_average R202, R204: a SAVG that ends normally keeps a consistent record consistent (SUM the sum of the samples,
CURSOR < N), with N unchanged, and its result lies in the range of the element type. -/
def Obligations.SlidingAverageKeepsTheRecordConsistent : Prop :=
  ∀ (i : Instr) (et : Elem) (s t : State), i.form = .savg et → Undisturbed s = true → s.err = .none →
    Memory.wf s.mem = true → ConsistentAverage s.mem (addrOf s.aL) et → exec i s = .next t → t.err = .none →
    ConsistentAverage t.mem (addrOf s.aL) et ∧
    countAt t.mem (addrOf s.aL + 6) = countAt s.mem (addrOf s.aL + 6) ∧
    ∃ r : Int, t.res = enc64 r ∧ et.ty.min ≤ r ∧ r ≤ et.ty.max

/-- 44_sliding_average R204, 60 R285: SAVG on a record with N = 0 or CURSOR >= N ends with PRECOND and writes nothing. -/
def Obligations.SlidingAverageRejectsBadRecords : Prop :=
  ∀ (i : Instr) (et : Elem) (s : State) (a : Nat), i.form = .savg et → Undisturbed s = true → a = addrOf s.aL →
    a % 4 = 0 → readable s a .b4 = true → readable s (a + 4) .b2 = true → readable s (a + 6) .b2 = true →
    (countAt s.mem (a + 6) = 0 ∨ countAt s.mem (a + 6) ≤ countAt s.mem (a + 4)) →
    exec i s = .next (Errored s s.mem .precond)

/-! ## DEB -/

/-- 45_debounce R220, R222, R223: DEB completes on every record value. With raw equal to ACCEPTED the accumulator clears; else it
grows by delta, saturating at 2^32 - 1, and at the settle time of the transition raw is accepted and it clears. ACCEPTED is
written as 0 or 1 and is the result; T_LH, T_HL and every other byte stay. -/
def Obligations.DebounceResult : Prop :=
  ∀ (s : State) (b acc : Nat) (accepted raw : Bool), Undisturbed s = true → b = addrOf s.aL → b % 4 = 0 →
    raw = s.bL.getLsbD 0 → accepted = decide (loadMem s.mem b .b4 ≠ 0) →
    acc = Nat.min ((loadMem s.mem (b + 4) .b4).toNat + (low32 s.cL).toNat) 4294967295 →
    (∀ k, k < 4 → readable s (b + 4 * k) .b4 = true) → writable s b .b4 = true → writable s (b + 4) .b4 = true →
    ∃ (m : Memory) (out : Bool) (acc' : Nat),
      exec .deb s = .next (Completed s m (if out then 1 else 0)) ∧
      m = storeMem (storeMem s.mem b .b4 (if out then 1 else 0)) (b + 4) .b4 (BitVec.ofNat 32 acc') ∧
      (∀ x, ¬ (b ≤ x ∧ x < b + 8) → readByte m x = readByte s.mem x) ∧
      (raw = accepted → out = accepted ∧ acc' = 0) ∧
      (raw ≠ accepted → (loadMem s.mem (if accepted then b + 12 else b + 8) .b4).toNat ≤ acc → out = raw ∧ acc' = 0) ∧
      (raw ≠ accepted → acc < (loadMem s.mem (if accepted then b + 12 else b + 8) .b4).toNat →
        out = accepted ∧ acc' = acc)

/-- 45_debounce R221, R222: from a cleared accumulator, calls whose raw differs from ACCEPTED every time leave ACCEPTED alone while
their deltas sum to less than the settle time, and the first call at which they reach it accepts raw and clears. -/
def Obligations.DebounceAcceptsAtTheSettleTime : Prop :=
  ∀ (accepted : Bool) (tlh thl : Nat) (deltas : List Nat) (last : Nat), tlh < 2 ^ 32 → thl < 2 ^ 32 →
    deltas.sum < (if accepted then thl else tlh) →
    deltas.foldl (fun (st : Bool × Nat) d => debounceNext (!accepted) st.1 st.2 d tlh thl) (accepted, 0) =
      (accepted, deltas.sum) ∧
    ((if accepted then thl else tlh) ≤ deltas.sum + last →
      (deltas ++ [last]).foldl (fun (st : Bool × Nat) d => debounceNext (!accepted) st.1 st.2 d tlh thl) (accepted, 0) =
        (!accepted, 0))

/-! ## The software timer -/

/-- 46_timer R240, R241, R246: TSTART stores `now` exactly and TSTOP stores 0 at the record, RES is 0, and no other byte changes;
memory in canonical form then holds that value. -/
def Obligations.TimerStartAndStop : Prop :=
  ∀ (i : Instr) (s : State) (now : BitVec 32), Undisturbed s = true → addrOf s.aL % 4 = 0 →
    writable s (addrOf s.aL) .b4 = true →
    (i.form = .tstart ∧ now = low32 s.bL) ∨ (i.form = .tstop ∧ now = 0) →
    ∃ m : Memory, m = storeMem s.mem (addrOf s.aL) .b4 now ∧ exec i s = .next (Completed s m 0) ∧
      (∀ b, ¬ (addrOf s.aL ≤ b ∧ b < addrOf s.aL + 4) → readByte m b = readByte s.mem b) ∧
      (Memory.wf s.mem = true → loadMem m (addrOf s.aL) .b4 = now)

/-- 46_timer R243: in both branches TELAPSED gives `(now - st) mod 2^32`; it never writes the record. -/
def Obligations.TimerElapsed : Prop :=
  ∀ s : State, Undisturbed s = true → addrOf s.aL % 4 = 0 → readable s (addrOf s.aL) .b4 = true →
    exec .telapsed s = .next (Completed s s.mem
      ((((low32 s.bL).toNat : Int) - ((loadMem s.mem (addrOf s.aL) .b4).toNat : Int)) % 4294967296))

/-- 46_timer R244, R241: TISSTOPPED gives 1 where STARTED_AT is 0 and 0 otherwise; after a TSTART at now = 0 it gives 1. -/
def Obligations.TimerIsStopped : Prop :=
  (∀ s : State, Undisturbed s = true → addrOf s.aL % 4 = 0 → readable s (addrOf s.aL) .b4 = true →
    exec .tisstopped s = .next (Completed s s.mem (if (loadMem s.mem (addrOf s.aL) .b4).toNat = 0 then 1 else 0))) ∧
  (∀ s : State, Undisturbed s = true → Memory.wf s.mem = true → addrOf s.aL % 4 = 0 →
    readable s (addrOf s.aL) .b4 = true → writable s (addrOf s.aL) .b4 = true → low32 s.bL = 0 →
    ∃ t : State, exec .tstart s = .next t ∧ exec .tisstopped t = .next (Completed t t.mem 1))

/-! ## CRC8 -/

/-- 47_crc8 R260: each of the 256 printed entries is the 8-step remainder of its index under polynomial 0x2F. -/
def Obligations.CrcTableIsThePolynomialRemainder : Prop :=
  crcTable.length = 256 ∧ ∀ i : BitVec 8, crcTable.getD i.toNat 0 = crcEntry i

/-- 47_crc8 R261, R262, R263: CRC8 on readable bytes completes and leaves memory unchanged; RES is the fold of the bytes from
the seed 0xFF, ascending, each looked up as the 8-step remainder, XORed with P_CRC_XOROUT at the end; with L = 0 no byte is
read. -/
def Obligations.CrcResult : Prop :=
  ∀ s : State, Undisturbed s = true →
    (∀ k, k < (low32 s.bL).toNat → readable s (addrOf s.aL + k) .b1 = true) →
    exec .crc8 s = .next (Completed s s.mem
      (((((List.range (low32 s.bL).toNat).map fun k => readByte s.mem (addrOf s.aL + k)).foldl
        (fun c b => crcEntry (c ^^^ b)) 0xFF) ^^^ s.params.crcXorOut).toNat : Int))

/-- 47_crc8 R263: any change of one byte of a buffer, a single-bit change among them, changes the CRC. -/
def Obligations.CrcDetectsAChangedByte : Prop :=
  ∀ (before after : List (BitVec 8)) (b b' seed : BitVec 8), b ≠ b' →
    (before ++ b :: after).foldl crcStep seed ≠ (before ++ b' :: after).foldl crcStep seed

/-- 47_crc8 R261, R263, 20_memory R55: a buffer that runs past 2^32, readable up to its end, ends with BUSERR, memory
unchanged. -/
def Obligations.CrcPastTheEndOfMemory : Prop :=
  ∀ s : State, Undisturbed s = true → 2 ^ 32 < addrOf s.aL + (low32 s.bL).toNat →
    (∀ k, addrOf s.aL + k < 2 ^ 32 → readable s (addrOf s.aL + k) .b1 = true) →
    exec .crc8 s = .next (Errored s s.mem .busErr)

/-! ## Errors -/

/-- 60 R283, R288, 20_memory R53: every command with a record address that fails its alignment ends with MISALIGNED before any
memory access, whatever else is wrong with the record. -/
def Obligations.MisalignedRecordsRejected : Prop :=
  ∀ (i : Instr) (s : State) (a k : Nat), s.grant ≠ some 0 → recordAddr i.form s = some (a, k) → a % k ≠ 0 →
    exec i s = .next (Errored s s.mem .misaligned)

/-- 20_memory R56, 60 R284: where the platform answers a command's first access with an error, the command ends with BUSERR
and memory unchanged. -/
def Obligations.FirstAccessBusError : Prop :=
  ∀ (i : Instr) (s : State) (a : Nat) (n : Size) (w : Bool), Undisturbed s = true →
    firstAccess i.form s = some (a, n, w) → (∀ b k, recordAddr i.form s = some (b, k) → b % k = 0) →
    hitsRegion s.platform a n RegionKind.isDevice = false →
    hitsRegion s.platform a n (if w then RegionKind.failsWrite else RegionKind.failsRead) = true →
    exec i s = .next (Errored s s.mem .busErr)

/-- 20_memory R55, 60 R288: an element of a distribution or of a curve's x values past the end of memory ends the command with
BUSERR, memory unchanged, whether or not the elements decrease. -/
def Obligations.ElementPastTheEndOfMemory : Prop :=
  ∀ (i : Instr) (et : Elem) (s : State) (k : Nat), (i.form = .dsearch et ∨ i.form = .curve et) → Undisturbed s = true →
    addrOf s.bL % 2 = 0 → 2 ≤ countAt s.mem (addrOf s.bL) → k < countAt s.mem (addrOf s.bL) →
    elemsReadable s (addrOf s.bL) (k + 1) → 2 ^ 32 < addrOf s.bL + 2 * (k + 1) + 2 →
    exec i s = .next (Errored s s.mem .busErr)

/-- 60 R284, 20_memory R56: a SAVG whose write of BUF[c] the platform answers with an error ends with BUSERR, SUM written and
nothing else. -/
def Obligations.WriteErrorKeepsEarlierWrites : Prop :=
  ∀ (i : Instr) (et : Elem) (s : State) (a c n : Nat), i.form = .savg et → Undisturbed s = true → a = addrOf s.aL →
    c = countAt s.mem (a + 4) → n = countAt s.mem (a + 6) → a % 4 = 0 → c < n →
    readable s a .b4 = true → readable s (a + 4) .b2 = true → readable s (a + 6) .b2 = true →
    readable s (a + 8 + 2 * c) .b2 = true → writable s a .b4 = true →
    hitsRegion s.platform (a + 8 + 2 * c) .b2 RegionKind.failsWrite = true →
    exec i s = .next (Errored s
      (storeMem s.mem a .b4 (BitVec.ofInt 32 ((loadMem s.mem a .b4).toNat - elemAt s.mem (a + 8) et c + val s.bL et.ty)))
      .busErr)

/-- 10_state R34, 20_memory R54: only SAVG, DEB, TSTART and TSTOP write memory. -/
def Obligations.OnlyRecordCommandsWriteMemory : Prop :=
  ∀ (i : Instr) (s t : State), writesMemory i.form = false → exec i s = .next t → t.mem = s.mem

/-- 20_memory R58: a command that only reads is idempotent: run again on what it left, it gives the same result and leaves the
same. -/
def Obligations.ReadOnlyCommandsAreIdempotent : Prop :=
  ∀ (i : Instr) (s t : State), writesMemory i.form = false → Undisturbed s = true → s.err = .none →
    exec i s = .next t → t.err = .none → exec i t = .next t

/-! ## Races -/

/-- 20_memory R71, 70 R322: a host write to memory while BUSY = 1 is performed, and records RACE where the running command has
already read or written one of its bytes; while BUSY = 0 it is an ordinary write. That the write is performed whatever the
platform's map holds is the model's (DEDUCED, unsafe; log entry 16), as is that RACE is recorded at the second of the two
accesses (DEDUCED; log entry 7). -/
def Obligations.HostWriteRace : Prop :=
  ∀ (s : State) (addr v : BitVec 32) (n : Size) (rest : List Input), s.inputs = .memWrite addr n v :: rest →
    addr.toNat + n.bytes ≤ 2 ^ 32 →
    ∃ t : State, step s = .next t ∧ t.mem = storeMem s.mem addr.toNat n v ∧ t.inputs = rest ∧ t.busy = s.busy ∧
      t.err = s.err ∧ t.res = s.res ∧ t.cmd = s.cmd ∧ t.progress = s.progress ∧
      (s.busy = false → t = { s with inputs := rest, mem := storeMem s.mem addr.toNat n v }) ∧
      (s.busy = true →
        (t.raceFault = true ↔
          s.raceFault = true ∨
            ∃ x ∈ s.progress, addr.toNat < x.addr + x.size.bytes ∧ x.addr < addr.toNat + n.bytes))

/-- 20_memory R71, 70 R322: what the unit's and the host's accesses give with and without a race. A read gives what memory
holds unless the other side has written one of its bytes meanwhile; then it gives memory as it was before the writes of both
sides that share a byte with it, made again in their order but that each access involved is seen or not, and RACE is
recorded. For a read of the unit the host's writes are involved; for a host read the unit's are, and so is a host write that
shares a byte with one of those. A write of the unit is performed, and records RACE exactly where the host has read or written
one of its bytes. How several racing writes combine, and that RACE is recorded at the second of two accesses, are the model's
(DEDUCED; log entry 7), as is that a host read is answered whatever the platform's map holds (DEDUCED, unsafe; log entry
16). -/
def Obligations.RacingReadSeesOldOrNew : Prop :=
  (∀ (s t : State) (a : Nat) (n : Size) (v : BitVec 32), portRead s a n = .ok v t →
    let racing := s.hostTouch.filter fun x => x.isWrite && decide (a < x.addr + x.size.bytes) && decide (x.addr < a + n.bytes)
    (racing = [] → v = loadMem s.mem a n ∧ t = s) ∧
    (racing ≠ [] →
      t = { s with raceFault := true, draws := s.draws + 1 } ∧
      ∃ seen : List (BusyWrite × Bool), seen.map Prod.fst = writesOver s a n ∧
        (∀ p ∈ seen, p.1.byUnit = true → p.2 = true) ∧
        v = loadMem (seen.foldl (fun m p => if p.2 then storeMem m p.1.addr p.1.size p.1.value else m)
          (takenBack s.mem (writesOver s a n))) a n)) ∧
  (∀ (s t : State) (a : Nat) (n : Size) (v w : BitVec 32), portWrite s a n v = .ok w t →
    t = { s with mem := storeMem s.mem a n v, raceFault := t.raceFault } ∧
    (t.raceFault = true ↔
      s.raceFault = true ∨ ∃ x ∈ s.hostTouch, a < x.addr + x.size.bytes ∧ x.addr < a + n.bytes)) ∧
  (∀ (s : State) (addr : BitVec 32) (n : Size) (rest : List Input), s.inputs = .memRead addr n :: rest →
    addr.toNat + n.bytes ≤ 2 ^ 32 →
    let racing := s.progress.filter fun x =>
      x.isWrite && decide (addr.toNat < x.addr + x.size.bytes) && decide (x.addr < addr.toNat + n.bytes)
    ∃ (t : State) (v : BitVec 32),
      step s = .next t ∧
      t = { s with
        inputs := rest, hostReads := { addr, value := v } :: s.hostReads
        hostTouch :=
          if s.busy then
            s.hostTouch ++
              [{ addr := addr.toNat, size := n, isWrite := false, value := 0, old := loadMem s.mem addr.toNat n
                 done := s.progress.length }]
          else s.hostTouch
        raceFault := s.raceFault || (s.busy && !racing.isEmpty)
        draws := if racing.isEmpty then s.draws else s.draws + 1 } ∧
      (racing = [] → v = loadMem s.mem addr.toNat n) ∧
      (racing ≠ [] →
        ∃ seen : List (BusyWrite × Bool), seen.map Prod.fst = writesOver s addr.toNat n ∧
          (∀ p ∈ seen, p.1.byUnit = false →
            (∀ x ∈ racing, ¬ (p.1.addr < x.addr + x.size.bytes ∧ x.addr < p.1.addr + p.1.size.bytes)) → p.2 = true) ∧
          v = loadMem (seen.foldl (fun m p => if p.2 then storeMem m p.1.addr p.1.size p.1.value else m)
            (takenBack s.mem (writesOver s addr.toNat n))) addr.toNat n))

/-! ## The machine's invariant -/

/-- 10_state R28, R30, 70 R313: the reset state is a good state. -/
def Obligations.InvariantAtReset : Prop := Inv State.reset = true

/-- Every step from a good state, whatever the outside does, gives a good state: memory keeps its canonical form inside the
2^32 addresses (10_state R34), `cmd_l` the copy of CMD (R28), BUSY = 1 only with a legal latched word and ERR NONE (R30, 70
R324), and nothing in progress while BUSY = 0 (R29). -/
def Obligations.StepKeepsInvariant : Prop :=
  ∀ s t : State, Inv s = true → step s = .next t → Inv t = true
end

