-- ==== Sys2Proof/Laws/State.lean ====
section
/-! SUPPORT. The small lemmas of State's updates: what each named update does to each field, so that no later proof unfolds
a record update. -/

namespace Sys2Proof.Machine

/-! ### the normal end of a command -/

@[simp] theorem State.finish_cmd (s : State) (r : Int) : (s.finish r).cmd = s.cmd := rfl
@[simp] theorem State.finish_busy (s : State) (r : Int) : (s.finish r).busy = false := rfl
@[simp] theorem State.finish_err (s : State) (r : Int) : (s.finish r).err = s.err := rfl
@[simp] theorem State.finish_opa (s : State) (r : Int) : (s.finish r).opa = s.opa := rfl
@[simp] theorem State.finish_opb (s : State) (r : Int) : (s.finish r).opb = s.opb := rfl
@[simp] theorem State.finish_opc (s : State) (r : Int) : (s.finish r).opc = s.opc := rfl
@[simp] theorem State.finish_res (s : State) (r : Int) : (s.finish r).res = enc64 r := rfl
@[simp] theorem State.finish_cmdL (s : State) (r : Int) : (s.finish r).cmdL = s.cmdL := rfl
@[simp] theorem State.finish_aL (s : State) (r : Int) : (s.finish r).aL = s.aL := rfl
@[simp] theorem State.finish_bL (s : State) (r : Int) : (s.finish r).bL = s.bL := rfl
@[simp] theorem State.finish_cL (s : State) (r : Int) : (s.finish r).cL = s.cL := rfl
@[simp] theorem State.finish_progress (s : State) (r : Int) : (s.finish r).progress = [] := rfl
@[simp] theorem State.finish_mem (s : State) (r : Int) : (s.finish r).mem = s.mem := rfl
@[simp] theorem State.finish_params (s : State) (r : Int) : (s.finish r).params = s.params := rfl
@[simp] theorem State.finish_platform (s : State) (r : Int) : (s.finish r).platform = s.platform := rfl
@[simp] theorem State.finish_protocolFault (s : State) (r : Int) : (s.finish r).protocolFault = s.protocolFault := rfl
@[simp] theorem State.finish_raceFault (s : State) (r : Int) : (s.finish r).raceFault = s.raceFault := rfl
@[simp] theorem State.finish_inputs (s : State) (r : Int) : (s.finish r).inputs = s.inputs := rfl
@[simp] theorem State.finish_grant (s : State) (r : Int) : (s.finish r).grant = s.grant := rfl
@[simp] theorem State.finish_hostTouch (s : State) (r : Int) : (s.finish r).hostTouch = [] := rfl
@[simp] theorem State.finish_hostReads (s : State) (r : Int) : (s.finish r).hostReads = s.hostReads := rfl
@[simp] theorem State.finish_draws (s : State) (r : Int) : (s.finish r).draws = s.draws := rfl

/-! ### the error end of a command -/

@[simp] theorem State.raise_cmd (s : State) (e : ErrCode) : (s.raise e).cmd = s.cmd := rfl
@[simp] theorem State.raise_busy (s : State) (e : ErrCode) : (s.raise e).busy = false := rfl
@[simp] theorem State.raise_err (s : State) (e : ErrCode) : (s.raise e).err = e := rfl
@[simp] theorem State.raise_opa (s : State) (e : ErrCode) : (s.raise e).opa = s.opa := rfl
@[simp] theorem State.raise_opb (s : State) (e : ErrCode) : (s.raise e).opb = s.opb := rfl
@[simp] theorem State.raise_opc (s : State) (e : ErrCode) : (s.raise e).opc = s.opc := rfl
@[simp] theorem State.raise_res (s : State) (e : ErrCode) : (s.raise e).res = Config.freeRes s.draws := rfl
@[simp] theorem State.raise_cmdL (s : State) (e : ErrCode) : (s.raise e).cmdL = s.cmdL := rfl
@[simp] theorem State.raise_aL (s : State) (e : ErrCode) : (s.raise e).aL = s.aL := rfl
@[simp] theorem State.raise_bL (s : State) (e : ErrCode) : (s.raise e).bL = s.bL := rfl
@[simp] theorem State.raise_cL (s : State) (e : ErrCode) : (s.raise e).cL = s.cL := rfl
@[simp] theorem State.raise_progress (s : State) (e : ErrCode) : (s.raise e).progress = [] := rfl
@[simp] theorem State.raise_mem (s : State) (e : ErrCode) : (s.raise e).mem = s.mem := rfl
@[simp] theorem State.raise_params (s : State) (e : ErrCode) : (s.raise e).params = s.params := rfl
@[simp] theorem State.raise_platform (s : State) (e : ErrCode) : (s.raise e).platform = s.platform := rfl
@[simp] theorem State.raise_protocolFault (s : State) (e : ErrCode) : (s.raise e).protocolFault = s.protocolFault := rfl
@[simp] theorem State.raise_raceFault (s : State) (e : ErrCode) : (s.raise e).raceFault = s.raceFault := rfl
@[simp] theorem State.raise_inputs (s : State) (e : ErrCode) : (s.raise e).inputs = s.inputs := rfl
@[simp] theorem State.raise_grant (s : State) (e : ErrCode) : (s.raise e).grant = s.grant := rfl
@[simp] theorem State.raise_hostTouch (s : State) (e : ErrCode) : (s.raise e).hostTouch = [] := rfl
@[simp] theorem State.raise_hostReads (s : State) (e : ErrCode) : (s.raise e).hostReads = s.hostReads := rfl
@[simp] theorem State.raise_draws (s : State) (e : ErrCode) : (s.raise e).draws = s.draws + 1 := rfl

/-! ### an access done -/

@[simp] theorem State.note_cmd (s : State) (x : Access) : (s.note x).cmd = s.cmd := rfl
@[simp] theorem State.note_busy (s : State) (x : Access) : (s.note x).busy = s.busy := rfl
@[simp] theorem State.note_err (s : State) (x : Access) : (s.note x).err = s.err := rfl
@[simp] theorem State.note_opa (s : State) (x : Access) : (s.note x).opa = s.opa := rfl
@[simp] theorem State.note_opb (s : State) (x : Access) : (s.note x).opb = s.opb := rfl
@[simp] theorem State.note_opc (s : State) (x : Access) : (s.note x).opc = s.opc := rfl
@[simp] theorem State.note_res (s : State) (x : Access) : (s.note x).res = s.res := rfl
@[simp] theorem State.note_cmdL (s : State) (x : Access) : (s.note x).cmdL = s.cmdL := rfl
@[simp] theorem State.note_aL (s : State) (x : Access) : (s.note x).aL = s.aL := rfl
@[simp] theorem State.note_bL (s : State) (x : Access) : (s.note x).bL = s.bL := rfl
@[simp] theorem State.note_cL (s : State) (x : Access) : (s.note x).cL = s.cL := rfl
@[simp] theorem State.note_progress (s : State) (x : Access) : (s.note x).progress = s.progress ++ [x] := rfl
@[simp] theorem State.note_mem (s : State) (x : Access) : (s.note x).mem = s.mem := rfl
@[simp] theorem State.note_params (s : State) (x : Access) : (s.note x).params = s.params := rfl
@[simp] theorem State.note_platform (s : State) (x : Access) : (s.note x).platform = s.platform := rfl
@[simp] theorem State.note_protocolFault (s : State) (x : Access) : (s.note x).protocolFault = s.protocolFault := rfl
@[simp] theorem State.note_raceFault (s : State) (x : Access) : (s.note x).raceFault = s.raceFault := rfl
@[simp] theorem State.note_inputs (s : State) (x : Access) : (s.note x).inputs = s.inputs := rfl
@[simp] theorem State.note_grant (s : State) (x : Access) : (s.note x).grant = s.grant := rfl
@[simp] theorem State.note_hostTouch (s : State) (x : Access) : (s.note x).hostTouch = s.hostTouch := rfl
@[simp] theorem State.note_hostReads (s : State) (x : Access) : (s.note x).hostReads = s.hostReads := rfl
@[simp] theorem State.note_draws (s : State) (x : Access) : (s.note x).draws = s.draws := rfl

/-! ### memory replaced -/

@[simp] theorem State.setMem_cmd (s : State) (m : Memory) : (s.setMem m).cmd = s.cmd := rfl
@[simp] theorem State.setMem_busy (s : State) (m : Memory) : (s.setMem m).busy = s.busy := rfl
@[simp] theorem State.setMem_err (s : State) (m : Memory) : (s.setMem m).err = s.err := rfl
@[simp] theorem State.setMem_opa (s : State) (m : Memory) : (s.setMem m).opa = s.opa := rfl
@[simp] theorem State.setMem_opb (s : State) (m : Memory) : (s.setMem m).opb = s.opb := rfl
@[simp] theorem State.setMem_opc (s : State) (m : Memory) : (s.setMem m).opc = s.opc := rfl
@[simp] theorem State.setMem_res (s : State) (m : Memory) : (s.setMem m).res = s.res := rfl
@[simp] theorem State.setMem_cmdL (s : State) (m : Memory) : (s.setMem m).cmdL = s.cmdL := rfl
@[simp] theorem State.setMem_aL (s : State) (m : Memory) : (s.setMem m).aL = s.aL := rfl
@[simp] theorem State.setMem_bL (s : State) (m : Memory) : (s.setMem m).bL = s.bL := rfl
@[simp] theorem State.setMem_cL (s : State) (m : Memory) : (s.setMem m).cL = s.cL := rfl
@[simp] theorem State.setMem_progress (s : State) (m : Memory) : (s.setMem m).progress = s.progress := rfl
@[simp] theorem State.setMem_mem (s : State) (m : Memory) : (s.setMem m).mem = m := rfl
@[simp] theorem State.setMem_params (s : State) (m : Memory) : (s.setMem m).params = s.params := rfl
@[simp] theorem State.setMem_platform (s : State) (m : Memory) : (s.setMem m).platform = s.platform := rfl
@[simp] theorem State.setMem_protocolFault (s : State) (m : Memory) : (s.setMem m).protocolFault = s.protocolFault := rfl
@[simp] theorem State.setMem_raceFault (s : State) (m : Memory) : (s.setMem m).raceFault = s.raceFault := rfl
@[simp] theorem State.setMem_inputs (s : State) (m : Memory) : (s.setMem m).inputs = s.inputs := rfl
@[simp] theorem State.setMem_grant (s : State) (m : Memory) : (s.setMem m).grant = s.grant := rfl
@[simp] theorem State.setMem_hostTouch (s : State) (m : Memory) : (s.setMem m).hostTouch = s.hostTouch := rfl
@[simp] theorem State.setMem_hostReads (s : State) (m : Memory) : (s.setMem m).hostReads = s.hostReads := rfl
@[simp] theorem State.setMem_draws (s : State) (m : Memory) : (s.setMem m).draws = s.draws := rfl

/-! ### a free value drawn -/

@[simp] theorem State.drawn_cmd (s : State) : (s.drawn).cmd = s.cmd := rfl
@[simp] theorem State.drawn_busy (s : State) : (s.drawn).busy = s.busy := rfl
@[simp] theorem State.drawn_err (s : State) : (s.drawn).err = s.err := rfl
@[simp] theorem State.drawn_opa (s : State) : (s.drawn).opa = s.opa := rfl
@[simp] theorem State.drawn_opb (s : State) : (s.drawn).opb = s.opb := rfl
@[simp] theorem State.drawn_opc (s : State) : (s.drawn).opc = s.opc := rfl
@[simp] theorem State.drawn_res (s : State) : (s.drawn).res = s.res := rfl
@[simp] theorem State.drawn_cmdL (s : State) : (s.drawn).cmdL = s.cmdL := rfl
@[simp] theorem State.drawn_aL (s : State) : (s.drawn).aL = s.aL := rfl
@[simp] theorem State.drawn_bL (s : State) : (s.drawn).bL = s.bL := rfl
@[simp] theorem State.drawn_cL (s : State) : (s.drawn).cL = s.cL := rfl
@[simp] theorem State.drawn_progress (s : State) : (s.drawn).progress = s.progress := rfl
@[simp] theorem State.drawn_mem (s : State) : (s.drawn).mem = s.mem := rfl
@[simp] theorem State.drawn_params (s : State) : (s.drawn).params = s.params := rfl
@[simp] theorem State.drawn_platform (s : State) : (s.drawn).platform = s.platform := rfl
@[simp] theorem State.drawn_protocolFault (s : State) : (s.drawn).protocolFault = s.protocolFault := rfl
@[simp] theorem State.drawn_raceFault (s : State) : (s.drawn).raceFault = s.raceFault := rfl
@[simp] theorem State.drawn_inputs (s : State) : (s.drawn).inputs = s.inputs := rfl
@[simp] theorem State.drawn_grant (s : State) : (s.drawn).grant = s.grant := rfl
@[simp] theorem State.drawn_hostTouch (s : State) : (s.drawn).hostTouch = s.hostTouch := rfl
@[simp] theorem State.drawn_hostReads (s : State) : (s.drawn).hostReads = s.hostReads := rfl
@[simp] theorem State.drawn_draws (s : State) : (s.drawn).draws = s.draws + 1 := rfl

/-! ### RACE recorded -/

@[simp] theorem State.recordRace_cmd (s : State) : (s.recordRace).cmd = s.cmd := rfl
@[simp] theorem State.recordRace_busy (s : State) : (s.recordRace).busy = s.busy := rfl
@[simp] theorem State.recordRace_err (s : State) : (s.recordRace).err = s.err := rfl
@[simp] theorem State.recordRace_opa (s : State) : (s.recordRace).opa = s.opa := rfl
@[simp] theorem State.recordRace_opb (s : State) : (s.recordRace).opb = s.opb := rfl
@[simp] theorem State.recordRace_opc (s : State) : (s.recordRace).opc = s.opc := rfl
@[simp] theorem State.recordRace_res (s : State) : (s.recordRace).res = s.res := rfl
@[simp] theorem State.recordRace_cmdL (s : State) : (s.recordRace).cmdL = s.cmdL := rfl
@[simp] theorem State.recordRace_aL (s : State) : (s.recordRace).aL = s.aL := rfl
@[simp] theorem State.recordRace_bL (s : State) : (s.recordRace).bL = s.bL := rfl
@[simp] theorem State.recordRace_cL (s : State) : (s.recordRace).cL = s.cL := rfl
@[simp] theorem State.recordRace_progress (s : State) : (s.recordRace).progress = s.progress := rfl
@[simp] theorem State.recordRace_mem (s : State) : (s.recordRace).mem = s.mem := rfl
@[simp] theorem State.recordRace_params (s : State) : (s.recordRace).params = s.params := rfl
@[simp] theorem State.recordRace_platform (s : State) : (s.recordRace).platform = s.platform := rfl
@[simp] theorem State.recordRace_protocolFault (s : State) : (s.recordRace).protocolFault = s.protocolFault := rfl
@[simp] theorem State.recordRace_raceFault (s : State) : (s.recordRace).raceFault = true := rfl
@[simp] theorem State.recordRace_inputs (s : State) : (s.recordRace).inputs = s.inputs := rfl
@[simp] theorem State.recordRace_grant (s : State) : (s.recordRace).grant = s.grant := rfl
@[simp] theorem State.recordRace_hostTouch (s : State) : (s.recordRace).hostTouch = s.hostTouch := rfl
@[simp] theorem State.recordRace_hostReads (s : State) : (s.recordRace).hostReads = s.hostReads := rfl
@[simp] theorem State.recordRace_draws (s : State) : (s.recordRace).draws = s.draws := rfl

/-! ### HOST_PROTOCOL recorded -/

@[simp] theorem State.recordProtocol_cmd (s : State) : (s.recordProtocol).cmd = s.cmd := rfl
@[simp] theorem State.recordProtocol_busy (s : State) : (s.recordProtocol).busy = s.busy := rfl
@[simp] theorem State.recordProtocol_err (s : State) : (s.recordProtocol).err = s.err := rfl
@[simp] theorem State.recordProtocol_opa (s : State) : (s.recordProtocol).opa = s.opa := rfl
@[simp] theorem State.recordProtocol_opb (s : State) : (s.recordProtocol).opb = s.opb := rfl
@[simp] theorem State.recordProtocol_opc (s : State) : (s.recordProtocol).opc = s.opc := rfl
@[simp] theorem State.recordProtocol_res (s : State) : (s.recordProtocol).res = s.res := rfl
@[simp] theorem State.recordProtocol_cmdL (s : State) : (s.recordProtocol).cmdL = s.cmdL := rfl
@[simp] theorem State.recordProtocol_aL (s : State) : (s.recordProtocol).aL = s.aL := rfl
@[simp] theorem State.recordProtocol_bL (s : State) : (s.recordProtocol).bL = s.bL := rfl
@[simp] theorem State.recordProtocol_cL (s : State) : (s.recordProtocol).cL = s.cL := rfl
@[simp] theorem State.recordProtocol_progress (s : State) : (s.recordProtocol).progress = s.progress := rfl
@[simp] theorem State.recordProtocol_mem (s : State) : (s.recordProtocol).mem = s.mem := rfl
@[simp] theorem State.recordProtocol_params (s : State) : (s.recordProtocol).params = s.params := rfl
@[simp] theorem State.recordProtocol_platform (s : State) : (s.recordProtocol).platform = s.platform := rfl
@[simp] theorem State.recordProtocol_protocolFault (s : State) : (s.recordProtocol).protocolFault = true := rfl
@[simp] theorem State.recordProtocol_raceFault (s : State) : (s.recordProtocol).raceFault = s.raceFault := rfl
@[simp] theorem State.recordProtocol_inputs (s : State) : (s.recordProtocol).inputs = s.inputs := rfl
@[simp] theorem State.recordProtocol_grant (s : State) : (s.recordProtocol).grant = s.grant := rfl
@[simp] theorem State.recordProtocol_hostTouch (s : State) : (s.recordProtocol).hostTouch = s.hostTouch := rfl
@[simp] theorem State.recordProtocol_hostReads (s : State) : (s.recordProtocol).hostReads = s.hostReads := rfl
@[simp] theorem State.recordProtocol_draws (s : State) : (s.recordProtocol).draws = s.draws := rfl

/-! ### a value returned to the host -/

@[simp] theorem State.returnRead_cmd (s : State) (a v : BitVec 32) : (s.returnRead a v).cmd = s.cmd := rfl
@[simp] theorem State.returnRead_busy (s : State) (a v : BitVec 32) : (s.returnRead a v).busy = s.busy := rfl
@[simp] theorem State.returnRead_err (s : State) (a v : BitVec 32) : (s.returnRead a v).err = s.err := rfl
@[simp] theorem State.returnRead_opa (s : State) (a v : BitVec 32) : (s.returnRead a v).opa = s.opa := rfl
@[simp] theorem State.returnRead_opb (s : State) (a v : BitVec 32) : (s.returnRead a v).opb = s.opb := rfl
@[simp] theorem State.returnRead_opc (s : State) (a v : BitVec 32) : (s.returnRead a v).opc = s.opc := rfl
@[simp] theorem State.returnRead_res (s : State) (a v : BitVec 32) : (s.returnRead a v).res = s.res := rfl
@[simp] theorem State.returnRead_cmdL (s : State) (a v : BitVec 32) : (s.returnRead a v).cmdL = s.cmdL := rfl
@[simp] theorem State.returnRead_aL (s : State) (a v : BitVec 32) : (s.returnRead a v).aL = s.aL := rfl
@[simp] theorem State.returnRead_bL (s : State) (a v : BitVec 32) : (s.returnRead a v).bL = s.bL := rfl
@[simp] theorem State.returnRead_cL (s : State) (a v : BitVec 32) : (s.returnRead a v).cL = s.cL := rfl
@[simp] theorem State.returnRead_progress (s : State) (a v : BitVec 32) : (s.returnRead a v).progress = s.progress := rfl
@[simp] theorem State.returnRead_mem (s : State) (a v : BitVec 32) : (s.returnRead a v).mem = s.mem := rfl
@[simp] theorem State.returnRead_params (s : State) (a v : BitVec 32) : (s.returnRead a v).params = s.params := rfl
@[simp] theorem State.returnRead_platform (s : State) (a v : BitVec 32) : (s.returnRead a v).platform = s.platform := rfl
@[simp] theorem State.returnRead_protocolFault (s : State) (a v : BitVec 32) : (s.returnRead a v).protocolFault = s.protocolFault := rfl
@[simp] theorem State.returnRead_raceFault (s : State) (a v : BitVec 32) : (s.returnRead a v).raceFault = s.raceFault := rfl
@[simp] theorem State.returnRead_inputs (s : State) (a v : BitVec 32) : (s.returnRead a v).inputs = s.inputs := rfl
@[simp] theorem State.returnRead_grant (s : State) (a v : BitVec 32) : (s.returnRead a v).grant = s.grant := rfl
@[simp] theorem State.returnRead_hostTouch (s : State) (a v : BitVec 32) : (s.returnRead a v).hostTouch = s.hostTouch := rfl
@[simp] theorem State.returnRead_hostReads (s : State) (a v : BitVec 32) : (s.returnRead a v).hostReads = { addr := a, value := v } :: s.hostReads := rfl
@[simp] theorem State.returnRead_draws (s : State) (a v : BitVec 32) : (s.returnRead a v).draws = s.draws := rfl

/-! ### the registers cleared by reset -/

@[simp] theorem State.clearRegs_cmd (s : State) : (s.clearRegs).cmd = 0 := rfl
@[simp] theorem State.clearRegs_busy (s : State) : (s.clearRegs).busy = false := rfl
@[simp] theorem State.clearRegs_err (s : State) : (s.clearRegs).err = ErrCode.none := rfl
@[simp] theorem State.clearRegs_opa (s : State) : (s.clearRegs).opa = 0 := rfl
@[simp] theorem State.clearRegs_opb (s : State) : (s.clearRegs).opb = 0 := rfl
@[simp] theorem State.clearRegs_opc (s : State) : (s.clearRegs).opc = 0 := rfl
@[simp] theorem State.clearRegs_res (s : State) : (s.clearRegs).res = 0 := rfl
@[simp] theorem State.clearRegs_cmdL (s : State) : (s.clearRegs).cmdL = 0 := rfl
@[simp] theorem State.clearRegs_aL (s : State) : (s.clearRegs).aL = 0 := rfl
@[simp] theorem State.clearRegs_bL (s : State) : (s.clearRegs).bL = 0 := rfl
@[simp] theorem State.clearRegs_cL (s : State) : (s.clearRegs).cL = 0 := rfl
@[simp] theorem State.clearRegs_progress (s : State) : (s.clearRegs).progress = [] := rfl
@[simp] theorem State.clearRegs_mem (s : State) : (s.clearRegs).mem = s.mem := rfl
@[simp] theorem State.clearRegs_params (s : State) : (s.clearRegs).params = s.params := rfl
@[simp] theorem State.clearRegs_platform (s : State) : (s.clearRegs).platform = s.platform := rfl
@[simp] theorem State.clearRegs_protocolFault (s : State) : (s.clearRegs).protocolFault = s.protocolFault := rfl
@[simp] theorem State.clearRegs_raceFault (s : State) : (s.clearRegs).raceFault = s.raceFault := rfl
@[simp] theorem State.clearRegs_inputs (s : State) : (s.clearRegs).inputs = s.inputs := rfl
@[simp] theorem State.clearRegs_grant (s : State) : (s.clearRegs).grant = none := rfl
@[simp] theorem State.clearRegs_hostTouch (s : State) : (s.clearRegs).hostTouch = [] := rfl
@[simp] theorem State.clearRegs_hostReads (s : State) : (s.clearRegs).hostReads = s.hostReads := rfl
@[simp] theorem State.clearRegs_draws (s : State) : (s.clearRegs).draws = s.draws := rfl

/-! ### power lost and back -/

@[simp] theorem powerCycle_cmd (s : State) : (powerCycle s).cmd = 0 := rfl
@[simp] theorem powerCycle_busy (s : State) : (powerCycle s).busy = false := rfl
@[simp] theorem powerCycle_err (s : State) : (powerCycle s).err = ErrCode.none := rfl
@[simp] theorem powerCycle_opa (s : State) : (powerCycle s).opa = 0 := rfl
@[simp] theorem powerCycle_opb (s : State) : (powerCycle s).opb = 0 := rfl
@[simp] theorem powerCycle_opc (s : State) : (powerCycle s).opc = 0 := rfl
@[simp] theorem powerCycle_res (s : State) : (powerCycle s).res = 0 := rfl
@[simp] theorem powerCycle_cmdL (s : State) : (powerCycle s).cmdL = 0 := rfl
@[simp] theorem powerCycle_aL (s : State) : (powerCycle s).aL = 0 := rfl
@[simp] theorem powerCycle_bL (s : State) : (powerCycle s).bL = 0 := rfl
@[simp] theorem powerCycle_cL (s : State) : (powerCycle s).cL = 0 := rfl
@[simp] theorem powerCycle_progress (s : State) : (powerCycle s).progress = [] := rfl
@[simp] theorem powerCycle_mem (s : State) : (powerCycle s).mem = powerOnMemory s.draws := rfl
@[simp] theorem powerCycle_params (s : State) : (powerCycle s).params = s.params := rfl
@[simp] theorem powerCycle_platform (s : State) : (powerCycle s).platform = s.platform := rfl
@[simp] theorem powerCycle_protocolFault (s : State) : (powerCycle s).protocolFault = s.protocolFault := rfl
@[simp] theorem powerCycle_raceFault (s : State) : (powerCycle s).raceFault = s.raceFault := rfl
@[simp] theorem powerCycle_inputs (s : State) : (powerCycle s).inputs = s.inputs := rfl
@[simp] theorem powerCycle_grant (s : State) : (powerCycle s).grant = none := rfl
@[simp] theorem powerCycle_hostTouch (s : State) : (powerCycle s).hostTouch = [] := rfl
@[simp] theorem powerCycle_hostReads (s : State) : (powerCycle s).hostReads = s.hostReads := rfl
@[simp] theorem powerCycle_draws (s : State) : (powerCycle s).draws = s.draws + 1 := rfl

/-! ### a host access to memory noted -/

@[simp] theorem State.hostTouches_cmd (s : State) (a : Nat) (n : Size) (w : Bool) (v : BitVec 32) :
    (s.hostTouches a n w v).cmd = s.cmd := by
  unfold State.hostTouches; split <;> rfl
@[simp] theorem State.hostTouches_busy (s : State) (a : Nat) (n : Size) (w : Bool) (v : BitVec 32) :
    (s.hostTouches a n w v).busy = s.busy := by
  unfold State.hostTouches; split <;> rfl
@[simp] theorem State.hostTouches_err (s : State) (a : Nat) (n : Size) (w : Bool) (v : BitVec 32) :
    (s.hostTouches a n w v).err = s.err := by
  unfold State.hostTouches; split <;> rfl
@[simp] theorem State.hostTouches_opa (s : State) (a : Nat) (n : Size) (w : Bool) (v : BitVec 32) :
    (s.hostTouches a n w v).opa = s.opa := by
  unfold State.hostTouches; split <;> rfl
@[simp] theorem State.hostTouches_opb (s : State) (a : Nat) (n : Size) (w : Bool) (v : BitVec 32) :
    (s.hostTouches a n w v).opb = s.opb := by
  unfold State.hostTouches; split <;> rfl
@[simp] theorem State.hostTouches_opc (s : State) (a : Nat) (n : Size) (w : Bool) (v : BitVec 32) :
    (s.hostTouches a n w v).opc = s.opc := by
  unfold State.hostTouches; split <;> rfl
@[simp] theorem State.hostTouches_res (s : State) (a : Nat) (n : Size) (w : Bool) (v : BitVec 32) :
    (s.hostTouches a n w v).res = s.res := by
  unfold State.hostTouches; split <;> rfl
@[simp] theorem State.hostTouches_cmdL (s : State) (a : Nat) (n : Size) (w : Bool) (v : BitVec 32) :
    (s.hostTouches a n w v).cmdL = s.cmdL := by
  unfold State.hostTouches; split <;> rfl
@[simp] theorem State.hostTouches_aL (s : State) (a : Nat) (n : Size) (w : Bool) (v : BitVec 32) :
    (s.hostTouches a n w v).aL = s.aL := by
  unfold State.hostTouches; split <;> rfl
@[simp] theorem State.hostTouches_bL (s : State) (a : Nat) (n : Size) (w : Bool) (v : BitVec 32) :
    (s.hostTouches a n w v).bL = s.bL := by
  unfold State.hostTouches; split <;> rfl
@[simp] theorem State.hostTouches_cL (s : State) (a : Nat) (n : Size) (w : Bool) (v : BitVec 32) :
    (s.hostTouches a n w v).cL = s.cL := by
  unfold State.hostTouches; split <;> rfl
@[simp] theorem State.hostTouches_progress (s : State) (a : Nat) (n : Size) (w : Bool) (v : BitVec 32) :
    (s.hostTouches a n w v).progress = s.progress := by
  unfold State.hostTouches; split <;> rfl
@[simp] theorem State.hostTouches_mem (s : State) (a : Nat) (n : Size) (w : Bool) (v : BitVec 32) :
    (s.hostTouches a n w v).mem = s.mem := by
  unfold State.hostTouches; split <;> rfl
@[simp] theorem State.hostTouches_params (s : State) (a : Nat) (n : Size) (w : Bool) (v : BitVec 32) :
    (s.hostTouches a n w v).params = s.params := by
  unfold State.hostTouches; split <;> rfl
@[simp] theorem State.hostTouches_platform (s : State) (a : Nat) (n : Size) (w : Bool) (v : BitVec 32) :
    (s.hostTouches a n w v).platform = s.platform := by
  unfold State.hostTouches; split <;> rfl
@[simp] theorem State.hostTouches_protocolFault (s : State) (a : Nat) (n : Size) (w : Bool) (v : BitVec 32) :
    (s.hostTouches a n w v).protocolFault = s.protocolFault := by
  unfold State.hostTouches; split <;> rfl
@[simp] theorem State.hostTouches_inputs (s : State) (a : Nat) (n : Size) (w : Bool) (v : BitVec 32) :
    (s.hostTouches a n w v).inputs = s.inputs := by
  unfold State.hostTouches; split <;> rfl
@[simp] theorem State.hostTouches_grant (s : State) (a : Nat) (n : Size) (w : Bool) (v : BitVec 32) :
    (s.hostTouches a n w v).grant = s.grant := by
  unfold State.hostTouches; split <;> rfl
@[simp] theorem State.hostTouches_hostReads (s : State) (a : Nat) (n : Size) (w : Bool) (v : BitVec 32) :
    (s.hostTouches a n w v).hostReads = s.hostReads := by
  unfold State.hostTouches; split <;> rfl
@[simp] theorem State.hostTouches_draws (s : State) (a : Nat) (n : Size) (w : Bool) (v : BitVec 32) :
    (s.hostTouches a n w v).draws = s.draws := by
  unfold State.hostTouches; split <;> rfl

@[simp] theorem State.hostTouches_hostTouch (s : State) (a : Nat) (n : Size) (w : Bool) (v : BitVec 32) :
    (s.hostTouches a n w v).hostTouch =
      if s.busy then
        s.hostTouch ++
          [{ addr := a, size := n, isWrite := w, value := v, old := loadMem s.mem a n, done := s.progress.length }]
      else s.hostTouch := by
  unfold State.hostTouches; split <;> rfl
@[simp] theorem State.hostTouches_raceFault (s : State) (a : Nat) (n : Size) (w : Bool) (v : BitVec 32) :
    (s.hostTouches a n w v).raceFault = if s.busy then s.raceFault || doneTouches s a n (!w) else s.raceFault := by
  unfold State.hostTouches; split <;> rfl

/-! ### a command accepted -/

@[simp] theorem accept_cmd (s : State) (w : BitVec 32) : (accept s w).cmd = w := by
  unfold accept; split <;> rfl
@[simp] theorem accept_busy (s : State) (w : BitVec 32) : (accept s w).busy = (if legal w then true else s.busy) := by
  unfold accept; split <;> rfl
@[simp] theorem accept_err (s : State) (w : BitVec 32) : (accept s w).err = (if legal w then ErrCode.none else ErrCode.illegal) := by
  unfold accept; split <;> rfl
@[simp] theorem accept_opa (s : State) (w : BitVec 32) : (accept s w).opa = s.opa := by
  unfold accept; split <;> rfl
@[simp] theorem accept_opb (s : State) (w : BitVec 32) : (accept s w).opb = s.opb := by
  unfold accept; split <;> rfl
@[simp] theorem accept_opc (s : State) (w : BitVec 32) : (accept s w).opc = s.opc := by
  unfold accept; split <;> rfl
@[simp] theorem accept_res (s : State) (w : BitVec 32) : (accept s w).res = s.res := by
  unfold accept; split <;> rfl
@[simp] theorem accept_cmdL (s : State) (w : BitVec 32) : (accept s w).cmdL = w := by
  unfold accept; split <;> rfl
@[simp] theorem accept_aL (s : State) (w : BitVec 32) : (accept s w).aL = s.opa := by
  unfold accept; split <;> rfl
@[simp] theorem accept_bL (s : State) (w : BitVec 32) : (accept s w).bL = s.opb := by
  unfold accept; split <;> rfl
@[simp] theorem accept_cL (s : State) (w : BitVec 32) : (accept s w).cL = s.opc := by
  unfold accept; split <;> rfl
@[simp] theorem accept_progress (s : State) (w : BitVec 32) : (accept s w).progress = (if legal w then [] else s.progress) := by
  unfold accept; split <;> rfl
@[simp] theorem accept_mem (s : State) (w : BitVec 32) : (accept s w).mem = s.mem := by
  unfold accept; split <;> rfl
@[simp] theorem accept_params (s : State) (w : BitVec 32) : (accept s w).params = s.params := by
  unfold accept; split <;> rfl
@[simp] theorem accept_platform (s : State) (w : BitVec 32) : (accept s w).platform = s.platform := by
  unfold accept; split <;> rfl
@[simp] theorem accept_protocolFault (s : State) (w : BitVec 32) : (accept s w).protocolFault = s.protocolFault := by
  unfold accept; split <;> rfl
@[simp] theorem accept_raceFault (s : State) (w : BitVec 32) : (accept s w).raceFault = s.raceFault := by
  unfold accept; split <;> rfl
@[simp] theorem accept_inputs (s : State) (w : BitVec 32) : (accept s w).inputs = s.inputs := by
  unfold accept; split <;> rfl
@[simp] theorem accept_grant (s : State) (w : BitVec 32) : (accept s w).grant = s.grant := by
  unfold accept; split <;> rfl
@[simp] theorem accept_hostTouch (s : State) (w : BitVec 32) : (accept s w).hostTouch = (if legal w then [] else s.hostTouch) := by
  unfold accept; split <;> rfl
@[simp] theorem accept_hostReads (s : State) (w : BitVec 32) : (accept s w).hostReads = s.hostReads := by
  unfold accept; split <;> rfl
@[simp] theorem accept_draws (s : State) (w : BitVec 32) : (accept s w).draws = s.draws := by
  unfold accept; split <;> rfl

end Sys2Proof.Machine
end

