-- ==== Sys2Proof/Laws/Exec.lean ====
section
/-! SUPPORT. The 336 meanings seen as one function of the command's form, so that a proof about every command splits over
16 operations and not over 336 constructors. -/

namespace Sys2Proof.Machine

/-- The program of a form on the latched operands and the parameters. -/
def formProg (f : Form) (s : State) : Prog Int :=
  match f with
  | .div nt dt rt => divProg nt dt rt s
  | .mul xt yt rt => mulProg xt yt rt s
  | .mulw xt yt => mulwProg xt yt s
  | .muldiv xt yt zt rt => muldivProg xt yt zt rt s
  | .lim xt rt => limProg xt rt s
  | .dsearch et => dsearchProg et s
  | .curve et => curveProg et s
  | .map et => mapProg et s
  | .mapg et => mapgProg et s
  | .savg et => savgProg et s
  | .deb => debProg s
  | .tstart => tstartProg s
  | .telapsed => telapsedProg s
  | .tisstopped => tisstoppedProg s
  | .tstop => tstopProg s
  | .crc8 => crc8Prog s

/-- Every meaning is its form's program, run. -/
theorem exec_eq_runCommand (i : Instr) (s : State) : exec i s = runCommand (formProg i.form s) s := by
  cases i <;> rfl

end Sys2Proof.Machine
end

