-- ==== Sys2Proof/Laws/Port.lean ====
section
/-! SUPPORT. The port and the running of programs: what each can do, said once. -/

namespace Sys2Proof.Machine

/-! ## The port -/

/-- What a read of the port can do: a value out of memory with the state unchanged, a racing value with RACE recorded, a
bus error, or a refusal. -/
theorem portRead_ok {s t : State} {a : Nat} {n : Size} {v : BitVec 32} (h : portRead s a n = .ok v t) :
    readable s a n = true ∧
      ((racingWrites s a n = [] ∧ v = loadMem s.mem a n ∧ t = s) ∨
        (racingWrites s a n ≠ [] ∧ t = s.drawn.recordRace)) := by
  unfold portRead at h
  split at h
  · simp at h
  · next h1 =>
    split at h
    · simp at h
    · next h2 =>
      split at h
      · simp at h
      · next h3 =>
        have hr : readable s a n = true := by
          simp only [readable, Bool.and_eq_true, Bool.not_eq_true'] at *
          simp_all
        split at h
        · next h4 => simp only [PortAnswer.ok.injEq] at h; exact ⟨hr, .inl ⟨List.isEmpty_iff.1 h4, h.1.symm, h.2.symm⟩⟩
        · next h4 =>
          simp only [PortAnswer.ok.injEq] at h
          exact ⟨hr, .inr ⟨fun he => h4 (by simp [he]), h.2.symm⟩⟩

/-- What a write of the port can do. -/
theorem portWrite_ok {s t : State} {a : Nat} {n : Size} {v w : BitVec 32} (h : portWrite s a n v = .ok w t) :
    writable s a n = true ∧
      (t = s.setMem (storeMem s.mem a n v) ∨ t = (s.setMem (storeMem s.mem a n v)).recordRace) := by
  unfold portWrite at h
  split at h
  · simp at h
  · next h1 =>
    split at h
    · simp at h
    · next h2 =>
      split at h
      · simp at h
      · next h3 =>
        have hr : writable s a n = true := by
          simp only [writable, Bool.and_eq_true, Bool.not_eq_true'] at *
          simp_all
        split at h
        · simp only [PortAnswer.ok.injEq] at h; exact ⟨hr, .inl h.2.symm⟩
        · simp only [PortAnswer.ok.injEq] at h; exact ⟨hr, .inr h.2.symm⟩

/-- With no host access meanwhile, a read of readable bytes gives what memory holds and changes nothing. -/
theorem portRead_quiet {s : State} {a : Nat} {n : Size} (hq : s.hostTouch = []) (hr : readable s a n = true) :
    portRead s a n = .ok (loadMem s.mem a n) s := by
  simp only [readable, Bool.and_eq_true, Bool.not_eq_true'] at hr
  simp [portRead, hr.1.1, hr.1.2, hr.2, racingWrites, touching, hq]

/-- With no host access meanwhile, a write of writable bytes stores them and changes nothing else. -/
theorem portWrite_quiet {s : State} {a : Nat} {n : Size} (v : BitVec 32) (hq : s.hostTouch = [])
    (hr : writable s a n = true) : portWrite s a n v = .ok v (s.setMem (storeMem s.mem a n v)) := by
  simp only [writable, Bool.and_eq_true, Bool.not_eq_true'] at hr
  simp [portWrite, hr.1.1, hr.1.2, hr.2, touching, hq]

/-- An access past the end of memory is a bus error (20_memory R55). -/
theorem portRead_outside {s : State} {a : Nat} {n : Size} (h : inRange a n = false) : portRead s a n = .busError := by
  simp [portRead, h]

theorem portWrite_outside {s : State} {a : Nat} {n : Size} (v : BitVec 32) (h : inRange a n = false) :
    portWrite s a n v = .busError := by
  simp [portWrite, h]

/-! ## Races -/

/-- A host write among the merged writes is one of the host's. -/
theorem mem_hostWrites {hs : List Touch} {w : BusyWrite} :
    w ∈ hostWrites hs ↔ ∃ t ∈ hs, t.isWrite = true ∧
      w = { byUnit := false, addr := t.addr, size := t.size, value := t.value, old := t.old } := by
  simp only [hostWrites, List.mem_map, List.mem_filter, and_assoc, eq_comm (a := w)]

/-- The merged writes are those of the command and those of the host, whatever the order. -/
theorem mem_inOrder {w : BusyWrite} (xs : List Access) : ∀ (k : Nat) (hs : List Touch),
    w ∈ inOrder hs k xs ↔ w ∈ hostWrites hs ∨ ∃ x ∈ xs, x.isWrite = true ∧
      w = { byUnit := true, addr := x.addr, size := x.size, value := x.value, old := x.old } := by
  induction xs with
  | nil => intro k hs; simp [inOrder]
  | cons x xs ih =>
    intro k hs
    have hsplit : w ∈ hostWrites hs ↔ w ∈ hostWrites (hs.takeWhile fun t => decide (t.done ≤ k)) ∨
        w ∈ hostWrites (hs.dropWhile fun t => decide (t.done ≤ k)) := by
      conv_lhs => rw [← List.takeWhile_append_dropWhile (p := fun t : Touch => decide (t.done ≤ k)) (l := hs)]
      simp only [mem_hostWrites, List.mem_append, or_and_right, exists_or]
    rw [hsplit]
    unfold inOrder
    by_cases hx : x.isWrite = true <;> simp [hx, ih, or_assoc, or_left_comm]

/-- What a racing read sees: the writes in their order, each with whether it is seen, and every write that is not free
seen. -/
theorem seenAgain_eq (free : BusyWrite → Bool) (c : Nat) (m : Memory) (ws : List BusyWrite) :
    ∃ seen : List (BusyWrite × Bool), seen.map Prod.fst = ws ∧ (∀ p ∈ seen, free p.1 = false → p.2 = true) ∧
      seenAgain free c m ws =
        seen.foldl (fun m p => if p.2 then storeMem m p.1.addr p.1.size p.1.value else m) m := by
  induction ws generalizing c m with
  | nil => exact ⟨[], rfl, by simp, rfl⟩
  | cons w ws ih =>
    by_cases hf : free w = true
    · obtain ⟨seen, h1, h2, h3⟩ := ih (c / 2) (if c % 2 = 1 then storeMem m w.addr w.size w.value else m)
      exact ⟨(w, decide (c % 2 = 1)) :: seen, by simp [h1], by simpa [hf] using h2, by simp [seenAgain, hf, h3]⟩
    · obtain ⟨seen, h1, h2, h3⟩ := ih c (storeMem m w.addr w.size w.value)
      exact ⟨(w, true) :: seen, by simp [h1], by simpa using h2, by simp [seenAgain, hf, h3]⟩

/-! ## Programs -/

@[simp] theorem Prog.bind_pure_left {α β : Type} (r : α) (f : α → Prog β) : (Prog.pure r).bind f = f r := rfl
@[simp] theorem Prog.bind_fail {α β : Type} (e : ErrCode) (f : α → Prog β) : (Prog.fail e).bind f = .fail e := rfl
@[simp] theorem Prog.bind_read {α β : Type} (a : Nat) (n : Size) (k : BitVec 32 → Prog α) (f : α → Prog β) :
    (Prog.read a n k).bind f = .read a n fun v => (k v).bind f := rfl
@[simp] theorem Prog.bind_write {α β : Type} (a : Nat) (n : Size) (v : BitVec 32) (k : Prog α) (f : α → Prog β) :
    (Prog.write a n v k).bind f = .write a n v (k.bind f) := rfl
@[simp] theorem memRead_bind {β : Type} (a : Nat) (n : Size) (f : BitVec 32 → Prog β) :
    (memRead a n).bind f = .read a n f := rfl
@[simp] theorem memWrite_bind {β : Type} (a : Nat) (n : Size) (v : BitVec 32) (f : Unit → Prog β) :
    (memWrite a n v).bind f = .write a n v (f ()) := rfl

theorem Prog.bind_assoc {α β γ : Type} (p : Prog α) (f : α → Prog β) (g : β → Prog γ) :
    (p.bind f).bind g = p.bind fun a => (f a).bind g := by
  induction p with
  | pure r => rfl
  | fail e => rfl
  | read a n k ih => simp [ih]
  | write a n v k ih => simp [ih]

theorem raiseIf_bind_false {β : Type} {c : Bool} (h : c = false) (e : ErrCode) (f : Unit → Prog β) :
    (raiseIf c e).bind f = f () := by simp [raiseIf, h]

theorem raiseIf_bind_true {β : Type} {c : Bool} (h : c = true) (e : ErrCode) (f : Unit → Prog β) :
    (raiseIf c e).bind f = .fail e := by simp [raiseIf, h]

/-! ## Running -/

@[simp] theorem spend_none : spend none = some none := rfl
@[simp] theorem spend_zero : spend (some 0) = none := rfl
@[simp] theorem spend_succ (k : Nat) : spend (some (k + 1)) = some (some k) := rfl

/-- A program that has reached its result, the turn not used up. -/
@[simp] theorem run_pure (r : Int) (d : List Access) (s : State) : (Prog.pure r).run none d s = .next (s.finish r) := rfl

/-- A program that has reached its error, the turn not used up. -/
@[simp] theorem run_fail (e : ErrCode) (d : List Access) (s : State) :
    (Prog.fail e : Prog Int).run none d s = .next (s.raise e) := rfl

/-- A read, with nothing done before it and no host access meanwhile. -/
theorem run_read_quiet {s : State} {a : Nat} {n : Size} (k : BitVec 32 → Prog Int) (hq : s.hostTouch = [])
    (hr : readable s a n = true) :
    (Prog.read a n k).run none [] s =
      (k (loadMem s.mem a n)).run none [] (s.note
        { addr := a, size := n, isWrite := false, value := loadMem s.mem a n, old := loadMem s.mem a n }) := by
  simp [Prog.run, portRead_quiet hq hr]

/-- A write, with nothing done before it and no host access meanwhile. -/
theorem run_write_quiet {s : State} {a : Nat} {n : Size} (v : BitVec 32) (k : Prog Int) (hq : s.hostTouch = [])
    (hr : writable s a n = true) :
    (Prog.write a n v k).run none [] s =
      k.run none [] ((s.setMem (storeMem s.mem a n v)).note
        { addr := a, size := n, isWrite := true, value := v, old := loadMem s.mem a n }) := by
  simp [Prog.run, portWrite_quiet v hq hr]

/-- One induction for every property that a run keeps: what each way of ending and each access keeps, the run keeps. -/
theorem run_keeps {P : State → Prop} (hfin : ∀ s r, P s → P (s.finish r)) (hraise : ∀ s e, P s → P (s.raise e))
    (hread : ∀ s t a n v, P s → portRead s a n = .ok v t →
      P (t.note { addr := a, size := n, isWrite := false, value := v, old := v }))
    (hwrite : ∀ s t a n v w, P s → portWrite s a n v = .ok w t →
      P (t.note { addr := a, size := n, isWrite := true, value := v, old := loadMem s.mem a n }))
    (p : Prog Int) : ∀ (g : Option Nat) (d : List Access) (s t : State), P s → p.run g d s = .next t → P t := by
  induction p with
  | pure r =>
    intro g d s t hs h
    simp only [Prog.run] at h
    split at h <;> cases h
    · exact hs
    · exact hfin _ _ hs
  | fail e =>
    intro g d s t hs h
    simp only [Prog.run] at h
    split at h <;> cases h
    · exact hs
    · exact hraise _ _ hs
  | read a n k ih =>
    intro g d s t hs h
    cases d with
    | cons x rest => exact ih _ _ _ _ _ hs h
    | nil =>
      simp only [Prog.run] at h
      split at h
      · cases h; exact hs
      · split at h
        · next ha => exact ih _ _ _ _ _ (hread _ _ _ _ _ hs ha) h
        · cases h; exact hraise _ _ hs
        · cases h
  | write a n v k ih =>
    intro g d s t hs h
    cases d with
    | cons x rest => exact ih _ _ _ _ hs h
    | nil =>
      simp only [Prog.run] at h
      split at h
      · cases h; exact hs
      · split at h
        · next ha => exact ih _ _ _ _ (hwrite _ _ _ _ _ _ hs ha) h
        · cases h; exact hraise _ _ hs
        · cases h

/-! ## Tables -/

/-- The state after the reads of a table, each noted. -/
def notedElems (s : State) (a : Nat) : Nat → Nat → State
  | 0, _ => s
  | n + 1, k =>
    notedElems (s.note
      { addr := a + 2 * k, size := .b2, isWrite := false, value := loadMem s.mem (a + 2 * k) .b2
        old := loadMem s.mem (a + 2 * k) .b2 }) a n (k + 1)

/-- Noting a table's reads changes the progress only. -/
theorem notedElems_eq (a n k : Nat) (s : State) :
    notedElems s a n k = { s with progress := (notedElems s a n k).progress } := by
  induction n generalizing s k with
  | zero => rfl
  | succ n ih => rw [notedElems, ih]; rfl

/-- Reading a readable table gives its elements, in order, and goes on. -/
theorem run_readElems_quiet (a : Nat) (et : Elem) (n : Nat) :
    ∀ (k : Nat) (s : State) (f : List Int → Prog Int), s.hostTouch = [] →
      (∀ j, j < n → readable s (a + 2 * (k + j)) .b2 = true) →
      ((readElems a et n k).bind f).run none [] s =
        (f ((List.range n).map fun j => elemVal et (loadMem s.mem (a + 2 * (k + j)) .b2))).run none [] (notedElems s a n k) := by
  induction n with
  | zero => intro k s f _ _; rfl
  | succ n ih =>
    intro k s f hq hr
    have h0 : readable s (a + 2 * k) .b2 = true := by simpa using hr 0 (by omega)
    simp only [readElems, elem, Prog.bind_assoc, memRead_bind, Prog.bind_read, Prog.bind_pure_left]
    rw [run_read_quiet _ hq h0, ih (k + 1) _ _ (by simpa using hq) (fun j hj => ?_)]
    · simp only [notedElems, State.note_mem, List.range_succ_eq_map, List.map_cons, List.map_map]
      simp [Function.comp_def, Nat.add_assoc, Nat.add_comm 1]
    · have := hr (j + 1) (by omega)
      rw [show k + (j + 1) = k + 1 + j by omega] at this
      simpa [readable] using this

end Sys2Proof.Machine
end

