-- ==== Sys2Proof/Laws/Eval.lean ====
section
/-! SUPPORT. An undisturbed run said without its bookkeeping: what a program makes of the platform's map and of memory, and
that a command run from its start to its end with no host access in between does just that. -/

namespace Sys2Proof.Machine

/-- What a program ends in. -/
inductive Ended (α : Type) where
  | done (r : α) (m : Memory)
  | error (e : ErrCode) (m : Memory)
  | refused (r : Refusal)

/-- A program on memory, with the port's checks. -/
def Prog.eval {α : Type} (regions : List Region) : Prog α → Memory → Ended α
  | .pure r, m => .done r m
  | .fail e, m => .error e m
  | .read a n k, m =>
    if ¬ inRange a n then .error .busErr m
    else if hitsRegion regions a n RegionKind.isDevice then .refused .sideEffectMemory
    else if hitsRegion regions a n RegionKind.failsRead then .error .busErr m
    else (k (loadMem m a n)).eval regions m
  | .write a n v k, m =>
    if ¬ inRange a n then .error .busErr m
    else if hitsRegion regions a n RegionKind.isDevice then .refused .sideEffectMemory
    else if hitsRegion regions a n RegionKind.failsWrite then .error .busErr m
    else k.eval regions (storeMem m a n v)

/-- The machine's outcome when the program of the command running in `s` ends so. -/
def Ended.outcome (s : State) : Ended Int → Host.Outcome State Fault Refusal
  | .done r m => .next (Completed s m r)
  | .error e m => .next (Errored s m e)
  | .refused r => .refused r

/-- What a command has done so far, and what memory held, leave no trace in its outcome. -/
theorem Ended.outcome_progress (s : State) (m : Memory) (d : List Access) (e : Ended Int) :
    e.outcome { s with mem := m, progress := d } = e.outcome s := by
  cases e <;> rfl

/-- A run with nothing done before it and no host access meanwhile is the program's evaluation. -/
theorem run_eq_eval (p : Prog Int) :
    ∀ s : State, s.hostTouch = [] → p.run none [] s = (p.eval s.platform s.mem).outcome s := by
  induction p with
  | pure r => intro s _; rfl
  | fail e => intro s _; rfl
  | read a n k ih =>
    intro s hq
    simp only [Prog.run, spend_none, portRead, racingWrites, touching, hq, List.filter_nil, List.isEmpty_nil, if_true,
      Prog.eval]
    split_ifs
    all_goals first | rfl | exact (ih (loadMem s.mem a n) (s.note _) hq).trans (Ended.outcome_progress s s.mem _ _)
  | write a n v k ih =>
    intro s hq
    simp only [Prog.run, spend_none, portWrite, touching, hq, List.filter_nil, List.isEmpty_nil, if_true,
      Prog.eval]
    split_ifs
    all_goals first | rfl | exact (ih ((s.setMem (storeMem s.mem a n v)).note _) hq).trans (Ended.outcome_progress s _ _ _)

/-- An undisturbed command is its program's evaluation. -/
theorem exec_undisturbed (i : Instr) {s : State} (h : Undisturbed s = true) :
    exec i s = ((formProg i.form s).eval s.platform s.mem).outcome s := by
  simp only [Undisturbed, Bool.and_eq_true, beq_iff_eq] at h
  rw [exec_eq_runCommand, runCommand, h.1.1, h.1.2, run_eq_eval _ _ h.2]

@[simp] theorem eval_pure {α : Type} (g : List Region) (r : α) (m : Memory) : (Prog.pure r).eval g m = .done r m := rfl
@[simp] theorem eval_fail {α : Type} (g : List Region) (e : ErrCode) (m : Memory) :
    (Prog.fail e : Prog α).eval g m = .error e m := rfl

/-- A read of readable bytes goes on with what memory holds. -/
theorem eval_read {α : Type} {s : State} {a : Nat} {n : Size} (k : BitVec 32 → Prog α) (m : Memory)
    (h : readable s a n = true) : (Prog.read a n k).eval s.platform m = (k (loadMem m a n)).eval s.platform m := by
  simp only [readable, Bool.and_eq_true, Bool.not_eq_true'] at h
  simp [Prog.eval, h.1.1, h.1.2, h.2]

/-- A write of writable bytes goes on with them stored. -/
theorem eval_write {α : Type} {s : State} {a : Nat} {n : Size} (v : BitVec 32) (k : Prog α) (m : Memory)
    (h : writable s a n = true) : (Prog.write a n v k).eval s.platform m = k.eval s.platform (storeMem m a n v) := by
  simp only [writable, Bool.and_eq_true, Bool.not_eq_true'] at h
  simp [Prog.eval, h.1.1, h.1.2, h.2]

/-- A program that ends normally, and what follows it. -/
theorem eval_bind_done {α β : Type} {g : List Region} (p : Prog α) (f : α → Prog β) {r : α} :
    ∀ {m m' : Memory}, p.eval g m = .done r m' → (p.bind f).eval g m = (f r).eval g m' := by
  induction p with
  | pure x => intro m m' h; simp only [eval_pure, Ended.done.injEq] at h; rw [← h.1, ← h.2]; rfl
  | fail e => intro m m' h; simp at h
  | read a n k ih =>
    intro m m' h
    simp only [Prog.eval, Prog.bind_read] at h ⊢
    split_ifs at h ⊢
    exact ih _ h
  | write a n v k ih =>
    intro m m' h
    simp only [Prog.eval, Prog.bind_write] at h ⊢
    split_ifs at h ⊢
    exact ih h

/-- A check that holds goes on, and one that fails ends the command. -/
theorem eval_raiseIf {α : Type} (c : Bool) (e : ErrCode) (f : Unit → Prog α) (g : List Region) (m : Memory) :
    ((raiseIf c e).bind f).eval g m = if c then .error e m else (f ()).eval g m := by
  cases c <;> rfl

theorem eval_checkAlign {α : Type} (a k : Nat) (f : Unit → Prog α) (g : List Region) (m : Memory) :
    ((checkAlign a k).bind f).eval g m = if a % k = 0 then (f ()).eval g m else .error .misaligned m := by
  simp only [checkAlign, eval_raiseIf, bne_iff_ne, ne_eq]
  split_ifs <;> simp_all

/-- One readable element. -/
theorem eval_elem {s : State} {a k : Nat} {et : Elem} (m : Memory) (h : readable s (a + 2 * k) .b2 = true) :
    (elem a k et).eval s.platform m = .done (elemAt m a et k) m := by
  simp only [elem, memRead_bind]
  rw [eval_read _ _ h]; rfl

/-- A readable table is its elements, in order. -/
theorem eval_readElems (s : State) (a : Nat) (et : Elem) (m : Memory) (n : Nat) :
    ∀ k, (∀ j, j < n → readable s (a + 2 * (k + j)) .b2 = true) →
      (readElems a et n k).eval s.platform m = .done ((List.range n).map fun j => elemAt m a et (k + j)) m := by
  induction n with
  | zero => intro k _; rfl
  | succ n ih =>
    intro k h
    have h0 : readable s (a + 2 * k) .b2 = true := h 0 (by omega)
    have h1 : ∀ j, j < n → readable s (a + 2 * (k + 1 + j)) .b2 = true := fun j hj => by
      rw [show k + 1 + j = k + (j + 1) by omega]; exact h (j + 1) (by omega)
    simp only [readElems]
    rw [eval_bind_done _ _ (eval_elem m h0), eval_bind_done _ _ (ih (k + 1) h1), eval_pure, List.range_succ_eq_map]
    simp [Function.comp_def, Nat.add_assoc, Nat.add_comm 1]

/-- A readable table from its first element on, and what follows its reading. -/
theorem eval_table {α : Type} {s : State} {a n : Nat} {et : Elem} (f : List Int → Prog α) (m : Memory)
    (h : ∀ j, j < n → readable s (a + 2 * j) .b2 = true) :
    ((readElems a et n 0).bind f).eval s.platform m = (f (tableElems m a et n)).eval s.platform m := by
  rw [eval_bind_done _ _ (eval_readElems s a et m n 0 fun j hj => by simpa using h j hj)]
  simp [tableElems, elemAt]

end Sys2Proof.Machine
end

