-- ==== Sys2Proof/Laws/Memory.lean ====
section
/-! SUPPORT. Memory: a read after a write gives what was written, a write leaves every other byte alone, and every
operation keeps the canonical form and the address space. -/

namespace Sys2Proof.Machine

/-! ## One byte -/

theorem readByte_consCell_other (a c : Nat) (v : BitVec 8) (m : Memory) (h : c ≠ a) :
    readByte (consCell a v m) c = readByte m c := by
  unfold consCell; split
  · rfl
  · simp [readByte, h]

theorem readByte_writeByte_other (m : Memory) (a c : Nat) (v : BitVec 8) (h : c ≠ a) :
    readByte (writeByte m a v) c = readByte m c := by
  induction m with
  | nil => simp [writeByte, readByte_consCell_other _ _ _ _ h]
  | cons x rest ih =>
    obtain ⟨b, w⟩ := x
    unfold writeByte
    split
    · next hab => subst hab; simp [readByte_consCell_other _ _ _ _ h, readByte, h]
    · split
      · simp [readByte_consCell_other _ _ _ _ h]
      · simp only [readByte]; split
        · rfl
        · exact ih

/-- Below every listed address, memory reads as unlisted. -/
theorem readByte_of_wfFrom {lo : Nat} {m : Memory} (h : wfFrom lo m = true) {a : Nat} (ha : a < lo) :
    readByte m a = Config.unlistedByte := by
  induction m generalizing lo with
  | nil => rfl
  | cons x rest ih =>
    obtain ⟨b, w⟩ := x
    simp only [wfFrom, Bool.and_eq_true, decide_eq_true_eq] at h
    have : a ≠ b := by omega
    simp only [readByte, this, if_false]
    exact ih h.2 (by omega)

theorem readByte_consCell_same (a : Nat) (v : BitVec 8) (m : Memory) (h : readByte m a = Config.unlistedByte) :
    readByte (consCell a v m) a = v := by
  unfold consCell; split
  · next hv => rw [h, hv]
  · simp [readByte]

theorem readByte_writeByte_same {lo : Nat} {m : Memory} (h : wfFrom lo m = true) (a : Nat) (v : BitVec 8) :
    readByte (writeByte m a v) a = v := by
  induction m generalizing lo with
  | nil => exact readByte_consCell_same a v [] rfl
  | cons x rest ih =>
    obtain ⟨b, w⟩ := x
    simp only [wfFrom, Bool.and_eq_true, decide_eq_true_eq] at h
    unfold writeByte
    split
    · next hab => subst hab; exact readByte_consCell_same _ _ _ (readByte_of_wfFrom h.2 (by omega))
    · next hne =>
      split
      · next hlt =>
        refine readByte_consCell_same _ _ _ ?_
        simp only [readByte, hne, if_false]
        exact readByte_of_wfFrom h.2 (by omega)
      · simp only [readByte, hne, if_false]; exact ih h.2

/-! ## The canonical form -/

theorem wfFrom_mono {lo lo' : Nat} {m : Memory} (h : wfFrom lo m = true) (hle : lo' ≤ lo) : wfFrom lo' m = true := by
  cases m with
  | nil => rfl
  | cons x rest =>
    simp only [wfFrom, Bool.and_eq_true, decide_eq_true_eq] at h ⊢
    exact ⟨⟨by omega, h.1.2⟩, h.2⟩

theorem wfFrom_consCell {lo a : Nat} {m : Memory} (v : BitVec 8) (h : wfFrom (a + 1) m = true) (hle : lo ≤ a) :
    wfFrom lo (consCell a v m) = true := by
  unfold consCell; split
  · exact wfFrom_mono h (by omega)
  · next hv => simp [wfFrom, hle, hv, h]

theorem wfFrom_writeByte {lo : Nat} {m : Memory} (h : wfFrom lo m = true) (a : Nat) (v : BitVec 8) (hle : lo ≤ a) :
    wfFrom lo (writeByte m a v) = true := by
  induction m generalizing lo with
  | nil => exact wfFrom_consCell v rfl hle
  | cons x rest ih =>
    obtain ⟨b, w⟩ := x
    simp only [wfFrom, Bool.and_eq_true, decide_eq_true_eq] at h
    unfold writeByte
    split
    · next hab => subst hab; exact wfFrom_consCell v h.2 hle
    · split
      · refine wfFrom_consCell v ?_ hle
        simp only [wfFrom, Bool.and_eq_true, decide_eq_true_eq]
        exact ⟨⟨by omega, h.1.2⟩, h.2⟩
      · simp only [wfFrom, Bool.and_eq_true, decide_eq_true_eq]
        exact ⟨h.1, ih h.2 (by omega)⟩

/-- Writing a byte keeps the canonical form. -/
theorem wf_writeByte {m : Memory} (h : Memory.wf m = true) (a : Nat) (v : BitVec 8) :
    Memory.wf (writeByte m a v) = true := wfFrom_writeByte h a v (Nat.zero_le _)

theorem inSpace_consCell {a : Nat} {m : Memory} (v : BitVec 8) (h : Memory.inSpace m = true) (ha : a < 2 ^ 32) :
    Memory.inSpace (consCell a v m) = true := by
  unfold consCell; split
  · exact h
  · simp only [Memory.inSpace, List.all_cons, decide_eq_true ha, Bool.true_and]; exact h

/-- Writing a byte of the address space keeps memory inside it. -/
theorem inSpace_writeByte {m : Memory} (h : Memory.inSpace m = true) {a : Nat} (v : BitVec 8) (ha : a < 2 ^ 32) :
    Memory.inSpace (writeByte m a v) = true := by
  induction m with
  | nil => exact inSpace_consCell v h ha
  | cons x rest ih =>
    obtain ⟨b, w⟩ := x
    have hr : Memory.inSpace rest = true := by
      simp only [Memory.inSpace, List.all_cons, Bool.and_eq_true] at h; exact h.2
    unfold writeByte
    split
    · exact inSpace_consCell v hr ha
    · split
      · exact inSpace_consCell v h ha
      · simp only [Memory.inSpace, List.all_cons, Bool.and_eq_true] at h ⊢
        exact ⟨h.1, ih h.2⟩

/-- The draw of memory at a power-on is in canonical form and inside the address space. -/
theorem powerOnMemory_good (k : Nat) :
    Memory.wf (powerOnMemory k) = true ∧ Memory.inSpace (powerOnMemory k) = true := by
  have key : ∀ (l : List (BitVec 32 × BitVec 8)) (m : Memory), Memory.wf m = true → Memory.inSpace m = true →
      Memory.wf (l.foldl (fun m c => writeByte m c.1.toNat c.2) m) = true ∧
        Memory.inSpace (l.foldl (fun m c => writeByte m c.1.toNat c.2) m) = true := by
    intro l
    induction l with
    | nil => exact fun m hw hs => ⟨hw, hs⟩
    | cons c l ih => exact fun m hw hs => ih _ (wf_writeByte hw _ _) (inSpace_writeByte hs _ c.1.isLt)
  exact key _ [] rfl rfl

/-! ## Several bytes -/

theorem readByte_writeLe_other (n : Nat) (m : Memory) (a v c : Nat) (h : c < a ∨ a + n ≤ c) :
    readByte (writeLe m a n v) c = readByte m c := by
  induction n generalizing m a v with
  | zero => rfl
  | succ n ih =>
    simp only [writeLe]
    rw [ih _ _ _ (by omega), readByte_writeByte_other _ _ _ _ (by omega)]

theorem wf_writeLe {m : Memory} (h : Memory.wf m = true) (n a v : Nat) : Memory.wf (writeLe m a n v) = true := by
  induction n generalizing m a v with
  | zero => exact h
  | succ n ih => exact ih (wf_writeByte h _ _) _ _

theorem inSpace_writeLe {m : Memory} (h : Memory.inSpace m = true) (n a v : Nat) (ha : a + n ≤ 2 ^ 32) :
    Memory.inSpace (writeLe m a n v) = true := by
  induction n generalizing m a v with
  | zero => exact h
  | succ n ih => exact ih (inSpace_writeByte h _ (by omega)) _ _ (by omega)

theorem readLe_congr (n : Nat) (m m' : Memory) (a : Nat)
    (h : ∀ c, a ≤ c → c < a + n → readByte m c = readByte m' c) : readLe m a n = readLe m' a n := by
  induction n generalizing a with
  | zero => rfl
  | succ n ih =>
    simp only [readLe]
    rw [h a (by omega) (by omega), ih (a + 1) fun c h1 h2 => h c (by omega) (by omega)]

theorem readLe_lt (n : Nat) (m : Memory) (a : Nat) : readLe m a n < 256 ^ n := by
  induction n generalizing a with
  | zero => simp [readLe]
  | succ n ih =>
    have h := ih (a + 1)
    have hb := (readByte m a).isLt
    simp only [readLe, pow_succ]
    omega

/-- A little-endian read after a little-endian write of the same bytes. -/
theorem readLe_writeLe_same {m : Memory} (h : Memory.wf m = true) (n a v : Nat) :
    readLe (writeLe m a n v) a n = v % 256 ^ n := by
  induction n generalizing m a v with
  | zero => simp [readLe, Nat.mod_one]
  | succ n ih =>
    simp only [readLe, writeLe]
    rw [readByte_writeLe_other _ _ _ _ _ (by omega), readByte_writeByte_same h, ih (wf_writeByte h _ _), pow_succ,
      Nat.mul_comm (256 ^ n) 256, Nat.mod_mul]
    simp

/-! ## Port-sized reads and writes -/

/-- A store leaves every byte outside it alone. -/
theorem readByte_storeMem_other (m : Memory) (a : Nat) (n : Size) (v : BitVec 32) (c : Nat)
    (h : c < a ∨ a + n.bytes ≤ c) : readByte (storeMem m a n v) c = readByte m c :=
  readByte_writeLe_other _ _ _ _ _ h

/-- A store leaves every read that shares no byte with it alone. -/
theorem loadMem_storeMem_other (m : Memory) (a : Nat) (n : Size) (v : BitVec 32) (b : Nat) (k : Size)
    (h : b + k.bytes ≤ a ∨ a + n.bytes ≤ b) : loadMem (storeMem m a n v) b k = loadMem m b k := by
  unfold loadMem
  rw [readLe_congr _ _ m _ fun c h1 h2 => readByte_storeMem_other _ _ _ _ _ (by omega)]

/-- A read after a store of the same bytes gives the low bytes of the stored value (20_memory R52). -/
theorem loadMem_storeMem_same {m : Memory} (h : Memory.wf m = true) (a : Nat) (n : Size) (v : BitVec 32) :
    loadMem (storeMem m a n v) a n = BitVec.ofNat 32 (v.toNat % 256 ^ n.bytes) := by
  unfold loadMem storeMem; rw [readLe_writeLe_same h]

theorem wf_storeMem {m : Memory} (h : Memory.wf m = true) (a : Nat) (n : Size) (v : BitVec 32) :
    Memory.wf (storeMem m a n v) = true := wf_writeLe h _ _ _

theorem inSpace_storeMem {m : Memory} (h : Memory.inSpace m = true) {a : Nat} {n : Size} (v : BitVec 32)
    (hr : inRange a n = true) : Memory.inSpace (storeMem m a n v) = true :=
  inSpace_writeLe h _ _ _ (of_decide_eq_true hr)

end Sys2Proof.Machine
end

