-- ==== Sys2Proof/Laws/PerInstr.lean ====
section
/-! SUPPORT. The family `Admitted`, one lemma per constructor of `Instr`: the command's operation and types are ones the
admission table 30_encoding R82 has. -/

namespace Sys2Proof.Laws.Admitted

/-- R82 admits the command's form, and its word has the reserved bits 0 (R80). -/
def Statement (i : Instr) : Prop := i.wf = true ∧ reservedField (encode i) = 0

theorem divU16U16U16 : Statement .divU16U16U16 := ⟨by decide, by decide⟩
theorem divU16U16S16 : Statement .divU16U16S16 := ⟨by decide, by decide⟩
theorem divU16U16U32 : Statement .divU16U16U32 := ⟨by decide, by decide⟩
theorem divU16U16S32 : Statement .divU16U16S32 := ⟨by decide, by decide⟩
theorem divU16S16U16 : Statement .divU16S16U16 := ⟨by decide, by decide⟩
theorem divU16S16S16 : Statement .divU16S16S16 := ⟨by decide, by decide⟩
theorem divU16S16U32 : Statement .divU16S16U32 := ⟨by decide, by decide⟩
theorem divU16S16S32 : Statement .divU16S16S32 := ⟨by decide, by decide⟩
theorem divU16U32U16 : Statement .divU16U32U16 := ⟨by decide, by decide⟩
theorem divU16U32S16 : Statement .divU16U32S16 := ⟨by decide, by decide⟩
theorem divU16U32U32 : Statement .divU16U32U32 := ⟨by decide, by decide⟩
theorem divU16U32S32 : Statement .divU16U32S32 := ⟨by decide, by decide⟩
theorem divU16S32U16 : Statement .divU16S32U16 := ⟨by decide, by decide⟩
theorem divU16S32S16 : Statement .divU16S32S16 := ⟨by decide, by decide⟩
theorem divU16S32U32 : Statement .divU16S32U32 := ⟨by decide, by decide⟩
theorem divU16S32S32 : Statement .divU16S32S32 := ⟨by decide, by decide⟩
theorem divS16U16U16 : Statement .divS16U16U16 := ⟨by decide, by decide⟩
theorem divS16U16S16 : Statement .divS16U16S16 := ⟨by decide, by decide⟩
theorem divS16U16U32 : Statement .divS16U16U32 := ⟨by decide, by decide⟩
theorem divS16U16S32 : Statement .divS16U16S32 := ⟨by decide, by decide⟩
theorem divS16S16U16 : Statement .divS16S16U16 := ⟨by decide, by decide⟩
theorem divS16S16S16 : Statement .divS16S16S16 := ⟨by decide, by decide⟩
theorem divS16S16U32 : Statement .divS16S16U32 := ⟨by decide, by decide⟩
theorem divS16S16S32 : Statement .divS16S16S32 := ⟨by decide, by decide⟩
theorem divS16U32U16 : Statement .divS16U32U16 := ⟨by decide, by decide⟩
theorem divS16U32S16 : Statement .divS16U32S16 := ⟨by decide, by decide⟩
theorem divS16U32U32 : Statement .divS16U32U32 := ⟨by decide, by decide⟩
theorem divS16U32S32 : Statement .divS16U32S32 := ⟨by decide, by decide⟩
theorem divS16S32U16 : Statement .divS16S32U16 := ⟨by decide, by decide⟩
theorem divS16S32S16 : Statement .divS16S32S16 := ⟨by decide, by decide⟩
theorem divS16S32U32 : Statement .divS16S32U32 := ⟨by decide, by decide⟩
theorem divS16S32S32 : Statement .divS16S32S32 := ⟨by decide, by decide⟩
theorem divU32U16U16 : Statement .divU32U16U16 := ⟨by decide, by decide⟩
theorem divU32U16S16 : Statement .divU32U16S16 := ⟨by decide, by decide⟩
theorem divU32U16U32 : Statement .divU32U16U32 := ⟨by decide, by decide⟩
theorem divU32U16S32 : Statement .divU32U16S32 := ⟨by decide, by decide⟩
theorem divU32S16U16 : Statement .divU32S16U16 := ⟨by decide, by decide⟩
theorem divU32S16S16 : Statement .divU32S16S16 := ⟨by decide, by decide⟩
theorem divU32S16U32 : Statement .divU32S16U32 := ⟨by decide, by decide⟩
theorem divU32S16S32 : Statement .divU32S16S32 := ⟨by decide, by decide⟩
theorem divU32U32U16 : Statement .divU32U32U16 := ⟨by decide, by decide⟩
theorem divU32U32S16 : Statement .divU32U32S16 := ⟨by decide, by decide⟩
theorem divU32U32U32 : Statement .divU32U32U32 := ⟨by decide, by decide⟩
theorem divU32U32S32 : Statement .divU32U32S32 := ⟨by decide, by decide⟩
theorem divU32S32U16 : Statement .divU32S32U16 := ⟨by decide, by decide⟩
theorem divU32S32S16 : Statement .divU32S32S16 := ⟨by decide, by decide⟩
theorem divU32S32U32 : Statement .divU32S32U32 := ⟨by decide, by decide⟩
theorem divU32S32S32 : Statement .divU32S32S32 := ⟨by decide, by decide⟩
theorem divS32U16U16 : Statement .divS32U16U16 := ⟨by decide, by decide⟩
theorem divS32U16S16 : Statement .divS32U16S16 := ⟨by decide, by decide⟩
theorem divS32U16U32 : Statement .divS32U16U32 := ⟨by decide, by decide⟩
theorem divS32U16S32 : Statement .divS32U16S32 := ⟨by decide, by decide⟩
theorem divS32S16U16 : Statement .divS32S16U16 := ⟨by decide, by decide⟩
theorem divS32S16S16 : Statement .divS32S16S16 := ⟨by decide, by decide⟩
theorem divS32S16U32 : Statement .divS32S16U32 := ⟨by decide, by decide⟩
theorem divS32S16S32 : Statement .divS32S16S32 := ⟨by decide, by decide⟩
theorem divS32U32U16 : Statement .divS32U32U16 := ⟨by decide, by decide⟩
theorem divS32U32S16 : Statement .divS32U32S16 := ⟨by decide, by decide⟩
theorem divS32U32U32 : Statement .divS32U32U32 := ⟨by decide, by decide⟩
theorem divS32U32S32 : Statement .divS32U32S32 := ⟨by decide, by decide⟩
theorem divS32S32U16 : Statement .divS32S32U16 := ⟨by decide, by decide⟩
theorem divS32S32S16 : Statement .divS32S32S16 := ⟨by decide, by decide⟩
theorem divS32S32U32 : Statement .divS32S32U32 := ⟨by decide, by decide⟩
theorem divS32S32S32 : Statement .divS32S32S32 := ⟨by decide, by decide⟩
theorem divU64U32U32 : Statement .divU64U32U32 := ⟨by decide, by decide⟩
theorem divU64U32S32 : Statement .divU64U32S32 := ⟨by decide, by decide⟩
theorem divU64S32U32 : Statement .divU64S32U32 := ⟨by decide, by decide⟩
theorem divU64S32S32 : Statement .divU64S32S32 := ⟨by decide, by decide⟩
theorem divS64U32U32 : Statement .divS64U32U32 := ⟨by decide, by decide⟩
theorem divS64U32S32 : Statement .divS64U32S32 := ⟨by decide, by decide⟩
theorem divS64S32U32 : Statement .divS64S32U32 := ⟨by decide, by decide⟩
theorem divS64S32S32 : Statement .divS64S32S32 := ⟨by decide, by decide⟩
theorem mulU16U16U16 : Statement .mulU16U16U16 := ⟨by decide, by decide⟩
theorem mulU16U16S16 : Statement .mulU16U16S16 := ⟨by decide, by decide⟩
theorem mulU16S16U16 : Statement .mulU16S16U16 := ⟨by decide, by decide⟩
theorem mulU16S16S16 : Statement .mulU16S16S16 := ⟨by decide, by decide⟩
theorem mulU16U32U16 : Statement .mulU16U32U16 := ⟨by decide, by decide⟩
theorem mulU16U32S16 : Statement .mulU16U32S16 := ⟨by decide, by decide⟩
theorem mulU16U32U32 : Statement .mulU16U32U32 := ⟨by decide, by decide⟩
theorem mulU16U32S32 : Statement .mulU16U32S32 := ⟨by decide, by decide⟩
theorem mulU16S32U16 : Statement .mulU16S32U16 := ⟨by decide, by decide⟩
theorem mulU16S32S16 : Statement .mulU16S32S16 := ⟨by decide, by decide⟩
theorem mulU16S32U32 : Statement .mulU16S32U32 := ⟨by decide, by decide⟩
theorem mulU16S32S32 : Statement .mulU16S32S32 := ⟨by decide, by decide⟩
theorem mulU16U64U16 : Statement .mulU16U64U16 := ⟨by decide, by decide⟩
theorem mulU16U64S16 : Statement .mulU16U64S16 := ⟨by decide, by decide⟩
theorem mulU16U64U32 : Statement .mulU16U64U32 := ⟨by decide, by decide⟩
theorem mulU16U64S32 : Statement .mulU16U64S32 := ⟨by decide, by decide⟩
theorem mulU16U64U64 : Statement .mulU16U64U64 := ⟨by decide, by decide⟩
theorem mulU16U64S64 : Statement .mulU16U64S64 := ⟨by decide, by decide⟩
theorem mulU16S64U16 : Statement .mulU16S64U16 := ⟨by decide, by decide⟩
theorem mulU16S64S16 : Statement .mulU16S64S16 := ⟨by decide, by decide⟩
theorem mulU16S64U32 : Statement .mulU16S64U32 := ⟨by decide, by decide⟩
theorem mulU16S64S32 : Statement .mulU16S64S32 := ⟨by decide, by decide⟩
theorem mulU16S64U64 : Statement .mulU16S64U64 := ⟨by decide, by decide⟩
theorem mulU16S64S64 : Statement .mulU16S64S64 := ⟨by decide, by decide⟩
theorem mulS16U16U16 : Statement .mulS16U16U16 := ⟨by decide, by decide⟩
theorem mulS16U16S16 : Statement .mulS16U16S16 := ⟨by decide, by decide⟩
theorem mulS16S16U16 : Statement .mulS16S16U16 := ⟨by decide, by decide⟩
theorem mulS16S16S16 : Statement .mulS16S16S16 := ⟨by decide, by decide⟩
theorem mulS16U32U16 : Statement .mulS16U32U16 := ⟨by decide, by decide⟩
theorem mulS16U32S16 : Statement .mulS16U32S16 := ⟨by decide, by decide⟩
theorem mulS16U32U32 : Statement .mulS16U32U32 := ⟨by decide, by decide⟩
theorem mulS16U32S32 : Statement .mulS16U32S32 := ⟨by decide, by decide⟩
theorem mulS16S32U16 : Statement .mulS16S32U16 := ⟨by decide, by decide⟩
theorem mulS16S32S16 : Statement .mulS16S32S16 := ⟨by decide, by decide⟩
theorem mulS16S32U32 : Statement .mulS16S32U32 := ⟨by decide, by decide⟩
theorem mulS16S32S32 : Statement .mulS16S32S32 := ⟨by decide, by decide⟩
theorem mulS16U64U16 : Statement .mulS16U64U16 := ⟨by decide, by decide⟩
theorem mulS16U64S16 : Statement .mulS16U64S16 := ⟨by decide, by decide⟩
theorem mulS16U64U32 : Statement .mulS16U64U32 := ⟨by decide, by decide⟩
theorem mulS16U64S32 : Statement .mulS16U64S32 := ⟨by decide, by decide⟩
theorem mulS16U64U64 : Statement .mulS16U64U64 := ⟨by decide, by decide⟩
theorem mulS16U64S64 : Statement .mulS16U64S64 := ⟨by decide, by decide⟩
theorem mulS16S64U16 : Statement .mulS16S64U16 := ⟨by decide, by decide⟩
theorem mulS16S64S16 : Statement .mulS16S64S16 := ⟨by decide, by decide⟩
theorem mulS16S64U32 : Statement .mulS16S64U32 := ⟨by decide, by decide⟩
theorem mulS16S64S32 : Statement .mulS16S64S32 := ⟨by decide, by decide⟩
theorem mulS16S64U64 : Statement .mulS16S64U64 := ⟨by decide, by decide⟩
theorem mulS16S64S64 : Statement .mulS16S64S64 := ⟨by decide, by decide⟩
theorem mulU32U16U16 : Statement .mulU32U16U16 := ⟨by decide, by decide⟩
theorem mulU32U16S16 : Statement .mulU32U16S16 := ⟨by decide, by decide⟩
theorem mulU32U16U32 : Statement .mulU32U16U32 := ⟨by decide, by decide⟩
theorem mulU32U16S32 : Statement .mulU32U16S32 := ⟨by decide, by decide⟩
theorem mulU32S16U16 : Statement .mulU32S16U16 := ⟨by decide, by decide⟩
theorem mulU32S16S16 : Statement .mulU32S16S16 := ⟨by decide, by decide⟩
theorem mulU32S16U32 : Statement .mulU32S16U32 := ⟨by decide, by decide⟩
theorem mulU32S16S32 : Statement .mulU32S16S32 := ⟨by decide, by decide⟩
theorem mulU32U32U16 : Statement .mulU32U32U16 := ⟨by decide, by decide⟩
theorem mulU32U32S16 : Statement .mulU32U32S16 := ⟨by decide, by decide⟩
theorem mulU32U32U32 : Statement .mulU32U32U32 := ⟨by decide, by decide⟩
theorem mulU32U32S32 : Statement .mulU32U32S32 := ⟨by decide, by decide⟩
theorem mulU32S32U16 : Statement .mulU32S32U16 := ⟨by decide, by decide⟩
theorem mulU32S32S16 : Statement .mulU32S32S16 := ⟨by decide, by decide⟩
theorem mulU32S32U32 : Statement .mulU32S32U32 := ⟨by decide, by decide⟩
theorem mulU32S32S32 : Statement .mulU32S32S32 := ⟨by decide, by decide⟩
theorem mulU32U64U16 : Statement .mulU32U64U16 := ⟨by decide, by decide⟩
theorem mulU32U64S16 : Statement .mulU32U64S16 := ⟨by decide, by decide⟩
theorem mulU32U64U32 : Statement .mulU32U64U32 := ⟨by decide, by decide⟩
theorem mulU32U64S32 : Statement .mulU32U64S32 := ⟨by decide, by decide⟩
theorem mulU32U64U64 : Statement .mulU32U64U64 := ⟨by decide, by decide⟩
theorem mulU32U64S64 : Statement .mulU32U64S64 := ⟨by decide, by decide⟩
theorem mulU32S64U16 : Statement .mulU32S64U16 := ⟨by decide, by decide⟩
theorem mulU32S64S16 : Statement .mulU32S64S16 := ⟨by decide, by decide⟩
theorem mulU32S64U32 : Statement .mulU32S64U32 := ⟨by decide, by decide⟩
theorem mulU32S64S32 : Statement .mulU32S64S32 := ⟨by decide, by decide⟩
theorem mulU32S64U64 : Statement .mulU32S64U64 := ⟨by decide, by decide⟩
theorem mulU32S64S64 : Statement .mulU32S64S64 := ⟨by decide, by decide⟩
theorem mulS32U16U16 : Statement .mulS32U16U16 := ⟨by decide, by decide⟩
theorem mulS32U16S16 : Statement .mulS32U16S16 := ⟨by decide, by decide⟩
theorem mulS32U16U32 : Statement .mulS32U16U32 := ⟨by decide, by decide⟩
theorem mulS32U16S32 : Statement .mulS32U16S32 := ⟨by decide, by decide⟩
theorem mulS32S16U16 : Statement .mulS32S16U16 := ⟨by decide, by decide⟩
theorem mulS32S16S16 : Statement .mulS32S16S16 := ⟨by decide, by decide⟩
theorem mulS32S16U32 : Statement .mulS32S16U32 := ⟨by decide, by decide⟩
theorem mulS32S16S32 : Statement .mulS32S16S32 := ⟨by decide, by decide⟩
theorem mulS32U32U16 : Statement .mulS32U32U16 := ⟨by decide, by decide⟩
theorem mulS32U32S16 : Statement .mulS32U32S16 := ⟨by decide, by decide⟩
theorem mulS32U32U32 : Statement .mulS32U32U32 := ⟨by decide, by decide⟩
theorem mulS32U32S32 : Statement .mulS32U32S32 := ⟨by decide, by decide⟩
theorem mulS32S32U16 : Statement .mulS32S32U16 := ⟨by decide, by decide⟩
theorem mulS32S32S16 : Statement .mulS32S32S16 := ⟨by decide, by decide⟩
theorem mulS32S32U32 : Statement .mulS32S32U32 := ⟨by decide, by decide⟩
theorem mulS32S32S32 : Statement .mulS32S32S32 := ⟨by decide, by decide⟩
theorem mulS32U64U16 : Statement .mulS32U64U16 := ⟨by decide, by decide⟩
theorem mulS32U64S16 : Statement .mulS32U64S16 := ⟨by decide, by decide⟩
theorem mulS32U64U32 : Statement .mulS32U64U32 := ⟨by decide, by decide⟩
theorem mulS32U64S32 : Statement .mulS32U64S32 := ⟨by decide, by decide⟩
theorem mulS32U64U64 : Statement .mulS32U64U64 := ⟨by decide, by decide⟩
theorem mulS32U64S64 : Statement .mulS32U64S64 := ⟨by decide, by decide⟩
theorem mulS32S64U16 : Statement .mulS32S64U16 := ⟨by decide, by decide⟩
theorem mulS32S64S16 : Statement .mulS32S64S16 := ⟨by decide, by decide⟩
theorem mulS32S64U32 : Statement .mulS32S64U32 := ⟨by decide, by decide⟩
theorem mulS32S64S32 : Statement .mulS32S64S32 := ⟨by decide, by decide⟩
theorem mulS32S64U64 : Statement .mulS32S64U64 := ⟨by decide, by decide⟩
theorem mulS32S64S64 : Statement .mulS32S64S64 := ⟨by decide, by decide⟩
theorem mulU64U16U16 : Statement .mulU64U16U16 := ⟨by decide, by decide⟩
theorem mulU64U16S16 : Statement .mulU64U16S16 := ⟨by decide, by decide⟩
theorem mulU64U16U32 : Statement .mulU64U16U32 := ⟨by decide, by decide⟩
theorem mulU64U16S32 : Statement .mulU64U16S32 := ⟨by decide, by decide⟩
theorem mulU64U16U64 : Statement .mulU64U16U64 := ⟨by decide, by decide⟩
theorem mulU64U16S64 : Statement .mulU64U16S64 := ⟨by decide, by decide⟩
theorem mulU64S16U16 : Statement .mulU64S16U16 := ⟨by decide, by decide⟩
theorem mulU64S16S16 : Statement .mulU64S16S16 := ⟨by decide, by decide⟩
theorem mulU64S16U32 : Statement .mulU64S16U32 := ⟨by decide, by decide⟩
theorem mulU64S16S32 : Statement .mulU64S16S32 := ⟨by decide, by decide⟩
theorem mulU64S16U64 : Statement .mulU64S16U64 := ⟨by decide, by decide⟩
theorem mulU64S16S64 : Statement .mulU64S16S64 := ⟨by decide, by decide⟩
theorem mulU64U32U16 : Statement .mulU64U32U16 := ⟨by decide, by decide⟩
theorem mulU64U32S16 : Statement .mulU64U32S16 := ⟨by decide, by decide⟩
theorem mulU64U32U32 : Statement .mulU64U32U32 := ⟨by decide, by decide⟩
theorem mulU64U32S32 : Statement .mulU64U32S32 := ⟨by decide, by decide⟩
theorem mulU64U32U64 : Statement .mulU64U32U64 := ⟨by decide, by decide⟩
theorem mulU64U32S64 : Statement .mulU64U32S64 := ⟨by decide, by decide⟩
theorem mulU64S32U16 : Statement .mulU64S32U16 := ⟨by decide, by decide⟩
theorem mulU64S32S16 : Statement .mulU64S32S16 := ⟨by decide, by decide⟩
theorem mulU64S32U32 : Statement .mulU64S32U32 := ⟨by decide, by decide⟩
theorem mulU64S32S32 : Statement .mulU64S32S32 := ⟨by decide, by decide⟩
theorem mulU64S32U64 : Statement .mulU64S32U64 := ⟨by decide, by decide⟩
theorem mulU64S32S64 : Statement .mulU64S32S64 := ⟨by decide, by decide⟩
theorem mulU64U64U16 : Statement .mulU64U64U16 := ⟨by decide, by decide⟩
theorem mulU64U64S16 : Statement .mulU64U64S16 := ⟨by decide, by decide⟩
theorem mulU64U64U32 : Statement .mulU64U64U32 := ⟨by decide, by decide⟩
theorem mulU64U64S32 : Statement .mulU64U64S32 := ⟨by decide, by decide⟩
theorem mulU64U64U64 : Statement .mulU64U64U64 := ⟨by decide, by decide⟩
theorem mulU64U64S64 : Statement .mulU64U64S64 := ⟨by decide, by decide⟩
theorem mulU64S64U16 : Statement .mulU64S64U16 := ⟨by decide, by decide⟩
theorem mulU64S64S16 : Statement .mulU64S64S16 := ⟨by decide, by decide⟩
theorem mulU64S64U32 : Statement .mulU64S64U32 := ⟨by decide, by decide⟩
theorem mulU64S64S32 : Statement .mulU64S64S32 := ⟨by decide, by decide⟩
theorem mulU64S64U64 : Statement .mulU64S64U64 := ⟨by decide, by decide⟩
theorem mulU64S64S64 : Statement .mulU64S64S64 := ⟨by decide, by decide⟩
theorem mulS64U16U16 : Statement .mulS64U16U16 := ⟨by decide, by decide⟩
theorem mulS64U16S16 : Statement .mulS64U16S16 := ⟨by decide, by decide⟩
theorem mulS64U16U32 : Statement .mulS64U16U32 := ⟨by decide, by decide⟩
theorem mulS64U16S32 : Statement .mulS64U16S32 := ⟨by decide, by decide⟩
theorem mulS64U16U64 : Statement .mulS64U16U64 := ⟨by decide, by decide⟩
theorem mulS64U16S64 : Statement .mulS64U16S64 := ⟨by decide, by decide⟩
theorem mulS64S16U16 : Statement .mulS64S16U16 := ⟨by decide, by decide⟩
theorem mulS64S16S16 : Statement .mulS64S16S16 := ⟨by decide, by decide⟩
theorem mulS64S16U32 : Statement .mulS64S16U32 := ⟨by decide, by decide⟩
theorem mulS64S16S32 : Statement .mulS64S16S32 := ⟨by decide, by decide⟩
theorem mulS64S16U64 : Statement .mulS64S16U64 := ⟨by decide, by decide⟩
theorem mulS64S16S64 : Statement .mulS64S16S64 := ⟨by decide, by decide⟩
theorem mulS64U32U16 : Statement .mulS64U32U16 := ⟨by decide, by decide⟩
theorem mulS64U32S16 : Statement .mulS64U32S16 := ⟨by decide, by decide⟩
theorem mulS64U32U32 : Statement .mulS64U32U32 := ⟨by decide, by decide⟩
theorem mulS64U32S32 : Statement .mulS64U32S32 := ⟨by decide, by decide⟩
theorem mulS64U32U64 : Statement .mulS64U32U64 := ⟨by decide, by decide⟩
theorem mulS64U32S64 : Statement .mulS64U32S64 := ⟨by decide, by decide⟩
theorem mulS64S32U16 : Statement .mulS64S32U16 := ⟨by decide, by decide⟩
theorem mulS64S32S16 : Statement .mulS64S32S16 := ⟨by decide, by decide⟩
theorem mulS64S32U32 : Statement .mulS64S32U32 := ⟨by decide, by decide⟩
theorem mulS64S32S32 : Statement .mulS64S32S32 := ⟨by decide, by decide⟩
theorem mulS64S32U64 : Statement .mulS64S32U64 := ⟨by decide, by decide⟩
theorem mulS64S32S64 : Statement .mulS64S32S64 := ⟨by decide, by decide⟩
theorem mulS64U64U16 : Statement .mulS64U64U16 := ⟨by decide, by decide⟩
theorem mulS64U64S16 : Statement .mulS64U64S16 := ⟨by decide, by decide⟩
theorem mulS64U64U32 : Statement .mulS64U64U32 := ⟨by decide, by decide⟩
theorem mulS64U64S32 : Statement .mulS64U64S32 := ⟨by decide, by decide⟩
theorem mulS64U64U64 : Statement .mulS64U64U64 := ⟨by decide, by decide⟩
theorem mulS64U64S64 : Statement .mulS64U64S64 := ⟨by decide, by decide⟩
theorem mulS64S64U16 : Statement .mulS64S64U16 := ⟨by decide, by decide⟩
theorem mulS64S64S16 : Statement .mulS64S64S16 := ⟨by decide, by decide⟩
theorem mulS64S64U32 : Statement .mulS64S64U32 := ⟨by decide, by decide⟩
theorem mulS64S64S32 : Statement .mulS64S64S32 := ⟨by decide, by decide⟩
theorem mulS64S64U64 : Statement .mulS64S64U64 := ⟨by decide, by decide⟩
theorem mulS64S64S64 : Statement .mulS64S64S64 := ⟨by decide, by decide⟩
theorem mulwU32U32 : Statement .mulwU32U32 := ⟨by decide, by decide⟩
theorem mulwU32S32 : Statement .mulwU32S32 := ⟨by decide, by decide⟩
theorem mulwS32U32 : Statement .mulwS32U32 := ⟨by decide, by decide⟩
theorem mulwS32S32 : Statement .mulwS32S32 := ⟨by decide, by decide⟩
theorem muldivU32U32U32U16 : Statement .muldivU32U32U32U16 := ⟨by decide, by decide⟩
theorem muldivU32U32U32S16 : Statement .muldivU32U32U32S16 := ⟨by decide, by decide⟩
theorem muldivU32U32U32U32 : Statement .muldivU32U32U32U32 := ⟨by decide, by decide⟩
theorem muldivU32U32U32S32 : Statement .muldivU32U32U32S32 := ⟨by decide, by decide⟩
theorem muldivU32U32S32U16 : Statement .muldivU32U32S32U16 := ⟨by decide, by decide⟩
theorem muldivU32U32S32S16 : Statement .muldivU32U32S32S16 := ⟨by decide, by decide⟩
theorem muldivU32U32S32U32 : Statement .muldivU32U32S32U32 := ⟨by decide, by decide⟩
theorem muldivU32U32S32S32 : Statement .muldivU32U32S32S32 := ⟨by decide, by decide⟩
theorem muldivU32S32U32U16 : Statement .muldivU32S32U32U16 := ⟨by decide, by decide⟩
theorem muldivU32S32U32S16 : Statement .muldivU32S32U32S16 := ⟨by decide, by decide⟩
theorem muldivU32S32U32U32 : Statement .muldivU32S32U32U32 := ⟨by decide, by decide⟩
theorem muldivU32S32U32S32 : Statement .muldivU32S32U32S32 := ⟨by decide, by decide⟩
theorem muldivU32S32S32U16 : Statement .muldivU32S32S32U16 := ⟨by decide, by decide⟩
theorem muldivU32S32S32S16 : Statement .muldivU32S32S32S16 := ⟨by decide, by decide⟩
theorem muldivU32S32S32U32 : Statement .muldivU32S32S32U32 := ⟨by decide, by decide⟩
theorem muldivU32S32S32S32 : Statement .muldivU32S32S32S32 := ⟨by decide, by decide⟩
theorem muldivS32U32U32U16 : Statement .muldivS32U32U32U16 := ⟨by decide, by decide⟩
theorem muldivS32U32U32S16 : Statement .muldivS32U32U32S16 := ⟨by decide, by decide⟩
theorem muldivS32U32U32U32 : Statement .muldivS32U32U32U32 := ⟨by decide, by decide⟩
theorem muldivS32U32U32S32 : Statement .muldivS32U32U32S32 := ⟨by decide, by decide⟩
theorem muldivS32U32S32U16 : Statement .muldivS32U32S32U16 := ⟨by decide, by decide⟩
theorem muldivS32U32S32S16 : Statement .muldivS32U32S32S16 := ⟨by decide, by decide⟩
theorem muldivS32U32S32U32 : Statement .muldivS32U32S32U32 := ⟨by decide, by decide⟩
theorem muldivS32U32S32S32 : Statement .muldivS32U32S32S32 := ⟨by decide, by decide⟩
theorem muldivS32S32U32U16 : Statement .muldivS32S32U32U16 := ⟨by decide, by decide⟩
theorem muldivS32S32U32S16 : Statement .muldivS32S32U32S16 := ⟨by decide, by decide⟩
theorem muldivS32S32U32U32 : Statement .muldivS32S32U32U32 := ⟨by decide, by decide⟩
theorem muldivS32S32U32S32 : Statement .muldivS32S32U32S32 := ⟨by decide, by decide⟩
theorem muldivS32S32S32U16 : Statement .muldivS32S32S32U16 := ⟨by decide, by decide⟩
theorem muldivS32S32S32S16 : Statement .muldivS32S32S32S16 := ⟨by decide, by decide⟩
theorem muldivS32S32S32U32 : Statement .muldivS32S32S32U32 := ⟨by decide, by decide⟩
theorem muldivS32S32S32S32 : Statement .muldivS32S32S32S32 := ⟨by decide, by decide⟩
theorem limU16U16 : Statement .limU16U16 := ⟨by decide, by decide⟩
theorem limU16S16 : Statement .limU16S16 := ⟨by decide, by decide⟩
theorem limU16U32 : Statement .limU16U32 := ⟨by decide, by decide⟩
theorem limU16S32 : Statement .limU16S32 := ⟨by decide, by decide⟩
theorem limU16U64 : Statement .limU16U64 := ⟨by decide, by decide⟩
theorem limU16S64 : Statement .limU16S64 := ⟨by decide, by decide⟩
theorem limS16U16 : Statement .limS16U16 := ⟨by decide, by decide⟩
theorem limS16S16 : Statement .limS16S16 := ⟨by decide, by decide⟩
theorem limS16U32 : Statement .limS16U32 := ⟨by decide, by decide⟩
theorem limS16S32 : Statement .limS16S32 := ⟨by decide, by decide⟩
theorem limS16U64 : Statement .limS16U64 := ⟨by decide, by decide⟩
theorem limS16S64 : Statement .limS16S64 := ⟨by decide, by decide⟩
theorem limU32U16 : Statement .limU32U16 := ⟨by decide, by decide⟩
theorem limU32S16 : Statement .limU32S16 := ⟨by decide, by decide⟩
theorem limU32U32 : Statement .limU32U32 := ⟨by decide, by decide⟩
theorem limU32S32 : Statement .limU32S32 := ⟨by decide, by decide⟩
theorem limU32U64 : Statement .limU32U64 := ⟨by decide, by decide⟩
theorem limU32S64 : Statement .limU32S64 := ⟨by decide, by decide⟩
theorem limS32U16 : Statement .limS32U16 := ⟨by decide, by decide⟩
theorem limS32S16 : Statement .limS32S16 := ⟨by decide, by decide⟩
theorem limS32U32 : Statement .limS32U32 := ⟨by decide, by decide⟩
theorem limS32S32 : Statement .limS32S32 := ⟨by decide, by decide⟩
theorem limS32U64 : Statement .limS32U64 := ⟨by decide, by decide⟩
theorem limS32S64 : Statement .limS32S64 := ⟨by decide, by decide⟩
theorem limU64U16 : Statement .limU64U16 := ⟨by decide, by decide⟩
theorem limU64S16 : Statement .limU64S16 := ⟨by decide, by decide⟩
theorem limU64U32 : Statement .limU64U32 := ⟨by decide, by decide⟩
theorem limU64S32 : Statement .limU64S32 := ⟨by decide, by decide⟩
theorem limU64U64 : Statement .limU64U64 := ⟨by decide, by decide⟩
theorem limU64S64 : Statement .limU64S64 := ⟨by decide, by decide⟩
theorem limS64U16 : Statement .limS64U16 := ⟨by decide, by decide⟩
theorem limS64S16 : Statement .limS64S16 := ⟨by decide, by decide⟩
theorem limS64U32 : Statement .limS64U32 := ⟨by decide, by decide⟩
theorem limS64S32 : Statement .limS64S32 := ⟨by decide, by decide⟩
theorem limS64U64 : Statement .limS64U64 := ⟨by decide, by decide⟩
theorem limS64S64 : Statement .limS64S64 := ⟨by decide, by decide⟩
theorem dsearchU16 : Statement .dsearchU16 := ⟨by decide, by decide⟩
theorem dsearchS16 : Statement .dsearchS16 := ⟨by decide, by decide⟩
theorem curveU16 : Statement .curveU16 := ⟨by decide, by decide⟩
theorem curveS16 : Statement .curveS16 := ⟨by decide, by decide⟩
theorem mapU16 : Statement .mapU16 := ⟨by decide, by decide⟩
theorem mapS16 : Statement .mapS16 := ⟨by decide, by decide⟩
theorem mapgU16 : Statement .mapgU16 := ⟨by decide, by decide⟩
theorem mapgS16 : Statement .mapgS16 := ⟨by decide, by decide⟩
theorem savgU16 : Statement .savgU16 := ⟨by decide, by decide⟩
theorem savgS16 : Statement .savgS16 := ⟨by decide, by decide⟩
theorem deb : Statement .deb := ⟨by decide, by decide⟩
theorem tstart : Statement .tstart := ⟨by decide, by decide⟩
theorem telapsed : Statement .telapsed := ⟨by decide, by decide⟩
theorem tisstopped : Statement .tisstopped := ⟨by decide, by decide⟩
theorem tstop : Statement .tstop := ⟨by decide, by decide⟩
theorem crc8 : Statement .crc8 := ⟨by decide, by decide⟩

end Sys2Proof.Laws.Admitted
end

