-- ==== Sys2Proof/Tests/Slice0.lean ====
section
/-! SUPPORT. Tests: the well-formedness smoke tests, every command's word decoded, one-step tests with results from the
spec's own vectors (95_test_vectors, named in each docstring), and for every statement with hypotheses a theorem that shows
states and operands meeting them. -/

namespace Sys2Proof.Tests

set_option Elab.async false

open Sys2Proof Sys2Proof.Machine

/-! ## Helpers -/

/-- A unit with its registers at 0x40000000 and the parameters at their defaults. -/
def bench : Config.Params :=
  { baseBlock := 0x400000, mulMixedNegZero := false, mapBlendRound := .shift, divNegovfMax := false, crcXorOut := 0x00 }

/-- Memory holding halfwords from an address. -/
def halfwords (a : Nat) (l : List Int) : Memory :=
  (List.range l.length).foldl (fun m k => storeMem m (a + 2 * k) .b2 (BitVec.ofInt 32 (l.getD k 0))) []

/-- Memory holding 32-bit words from an address. -/
def words (a : Nat) (l : List Nat) : Memory :=
  (List.range l.length).foldl (fun m k => storeMem m (a + 4 * k) .b4 (BitVec.ofNat 32 (l.getD k 0))) []

/-- Memory holding bytes from an address. -/
def bytes (a : Nat) (l : List Nat) : Memory :=
  (List.range l.length).foldl (fun m k => writeByte m (a + k) (BitVec.ofNat 8 (l.getD k 0))) []

/-- A unit about to run a command on latched operands. -/
def ready (a b c : Int) (m : Memory) : State :=
  { State.reset with params := bench, busy := true, aL := enc64 a, bL := enc64 b, cL := enc64 c, mem := m }

/-- A unit with a latched command word and actions to come. -/
def running (w : BitVec 32) (a b c : Int) (m : Memory) (acts : List Input) : State :=
  { ready a b c m with cmd := w, cmdL := w, inputs := acts }

/-- An idle unit with host actions to come. -/
def idle (acts : List Input) : State := { State.reset with params := bench, inputs := acts }

/-- The next state, where there is one. -/
def nextOf (o : Host.Outcome State Fault Refusal) : Option State :=
  match o with
  | .next t => some t
  | _ => none

/-- The next state, as a state. -/
def after (o : Host.Outcome State Fault Refusal) : State := (nextOf o).getD State.reset

theorem eq_next_after {o : Host.Outcome State Fault Refusal} (h : (nextOf o).isSome = true) : o = .next (after o) := by
  cases o <;> first | rfl | simp [nextOf] at h

/-- One call (30_encoding R90): the operands are written, the word is accepted, and the machine takes one step. -/
def call (w : Nat) (a b c : Int) (p : Config.Params) (m : Memory) (g : List Region) : Option State :=
  nextOf (step (State.withFetchWord
    { State.reset with opa := enc64 a, opb := enc64 b, opc := enc64 c, params := p, mem := m, platform := g } 32 w))

/-- RES after a call that ended normally. -/
def resOf (t : Option State) : Option Nat := t.bind fun t => if t.err = .none ∧ t.busy = false then some t.res.toNat else none

/-- ERR after a call that ended. -/
def errOf (t : Option State) : Option ErrCode := t.bind fun t => if t.busy then none else some t.err

/-- A 32-bit word of memory after a call. -/
def wordOf (t : Option State) (a : Nat) : Option Nat := t.map fun t => (loadMem t.mem a .b4).toNat

/-- Every listed word decodes to its command. -/
def decodesTo (l : List (Nat × Instr)) : Bool := l.all fun x => decodeTableWord 32 x.1 == some x.2

/-! ## Well-formedness refuses what the admission table does not have (30_encoding R82) -/

/-- DIV with a 64-bit divisor (V-E12), with a 64-bit result (V-E3), with a 64-bit numerator and a 16-bit divisor or result. -/
theorem test_wf_div : (Form.div .u64 .u64 .u32).wf = false ∧ (Form.div .s32 .s32 .u64).wf = false ∧
    (Form.div .u64 .u16 .u32).wf = false ∧ (Form.div .u64 .u32 .u16).wf = false := by decide

/-- MUL with a result wider than both operands (V-E4). -/
theorem test_wf_mul : (Form.mul .u16 .u16 .u32).wf = false ∧ (Form.mul .s32 .u16 .s64).wf = false := by decide

/-- MULW takes 32-bit operands only. -/
theorem test_wf_mulw : (Form.mulw .u16 .u32).wf = false ∧ (Form.mulw .u32 .u64).wf = false := by decide

/-- MULDIV with a 16-bit multiplicand (V-E11), a 64-bit divisor, a 64-bit result. -/
theorem test_wf_muldiv : (Form.muldiv .u16 .u32 .u32 .u32).wf = false ∧ (Form.muldiv .u32 .u16 .u32 .u32).wf = false ∧
    (Form.muldiv .u32 .u32 .u64 .u32).wf = false ∧ (Form.muldiv .u32 .u32 .u32 .u64).wf = false := by decide

/-- The words V-E1 to V-E12 are not legal. -/
theorem test_wf_words : ([0x00000000, 0x01404401, 0x00504401, 0x00301102, 0x00403303, 0x00707701, 0x00000520, 0x00010021,
    0x000000FF, 0x00200005, 0x00101104, 0x00305501] : List (BitVec 32)).all (fun w => !legalFields (fieldsOf w)) = true := by
  decide +kernel

/-- LIM with an unused field set, CRC8 with a type, TSTART with a type, CURVE with ET = 3. -/
theorem test_wf_fields : ([0x00210405, 0x00000140, 0x00100030, 0x00000311] : List (BitVec 32)).all
    (fun w => !legalFields (fieldsOf w)) = true := by decide +kernel

/-! ## The decoder -/

/-- The words V-E1 to V-E12 are refused by name (30_encoding R87). -/
theorem test_decode_refuses :
    (decodeWord 0x00000000 = .error .unassignedOp ∧ decodeWord 0x01404401 = .error .reservedBits ∧
      decodeWord 0x00504401 = .error .notAdmitted ∧ decodeWord 0x00301102 = .error .notAdmitted ∧
      decodeWord 0x00403303 = .error .notAdmitted ∧ decodeWord 0x00707701 = .error .reservedType) ∧
    (decodeWord 0x00000520 = .error .notAdmitted ∧ decodeWord 0x00010021 = .error .unusedField ∧
      decodeWord 0x000000FF = .error .unassignedOp ∧ decodeWord 0x00200005 = .error .missingType ∧
      decodeWord 0x00101104 = .error .missingType ∧ decodeWord 0x00305501 = .error .notAdmitted) := by decide +kernel

/-- DIV words from their fields (30_encoding R80 to R82). -/
theorem test_decode_div_a : decodesTo
    [(0x00101101, .divU16U16U16), (0x00201101, .divU16U16S16), (0x00301101, .divU16U16U32),
      (0x00401101, .divU16U16S32), (0x00102101, .divU16S16U16), (0x00202101, .divU16S16S16),
      (0x00302101, .divU16S16U32), (0x00402101, .divU16S16S32), (0x00103101, .divU16U32U16),
      (0x00203101, .divU16U32S16), (0x00303101, .divU16U32U32), (0x00403101, .divU16U32S32),
      (0x00104101, .divU16S32U16), (0x00204101, .divU16S32S16), (0x00304101, .divU16S32U32),
      (0x00404101, .divU16S32S32), (0x00101201, .divS16U16U16), (0x00201201, .divS16U16S16),
      (0x00301201, .divS16U16U32), (0x00401201, .divS16U16S32), (0x00102201, .divS16S16U16),
      (0x00202201, .divS16S16S16), (0x00302201, .divS16S16U32), (0x00402201, .divS16S16S32),
      (0x00103201, .divS16U32U16), (0x00203201, .divS16U32S16), (0x00303201, .divS16U32U32),
      (0x00403201, .divS16U32S32), (0x00104201, .divS16S32U16), (0x00204201, .divS16S32S16),
      (0x00304201, .divS16S32U32), (0x00404201, .divS16S32S32), (0x00101301, .divU32U16U16),
      (0x00201301, .divU32U16S16), (0x00301301, .divU32U16U32), (0x00401301, .divU32U16S32)] = true := by decide +kernel

/-- DIV words from their fields (30_encoding R80 to R82). -/
theorem test_decode_div_b : decodesTo
    [(0x00102301, .divU32S16U16), (0x00202301, .divU32S16S16), (0x00302301, .divU32S16U32),
      (0x00402301, .divU32S16S32), (0x00103301, .divU32U32U16), (0x00203301, .divU32U32S16),
      (0x00303301, .divU32U32U32), (0x00403301, .divU32U32S32), (0x00104301, .divU32S32U16),
      (0x00204301, .divU32S32S16), (0x00304301, .divU32S32U32), (0x00404301, .divU32S32S32),
      (0x00101401, .divS32U16U16), (0x00201401, .divS32U16S16), (0x00301401, .divS32U16U32),
      (0x00401401, .divS32U16S32), (0x00102401, .divS32S16U16), (0x00202401, .divS32S16S16),
      (0x00302401, .divS32S16U32), (0x00402401, .divS32S16S32), (0x00103401, .divS32U32U16),
      (0x00203401, .divS32U32S16), (0x00303401, .divS32U32U32), (0x00403401, .divS32U32S32),
      (0x00104401, .divS32S32U16), (0x00204401, .divS32S32S16), (0x00304401, .divS32S32U32),
      (0x00404401, .divS32S32S32), (0x00303501, .divU64U32U32), (0x00403501, .divU64U32S32),
      (0x00304501, .divU64S32U32), (0x00404501, .divU64S32S32), (0x00303601, .divS64U32U32),
      (0x00403601, .divS64U32S32), (0x00304601, .divS64S32U32), (0x00404601, .divS64S32S32)] = true := by decide +kernel

/-- MUL words from their fields (30_encoding R80 to R82). -/
theorem test_decode_mul_a : decodesTo
    [(0x00101102, .mulU16U16U16), (0x00201102, .mulU16U16S16), (0x00102102, .mulU16S16U16),
      (0x00202102, .mulU16S16S16), (0x00103102, .mulU16U32U16), (0x00203102, .mulU16U32S16),
      (0x00303102, .mulU16U32U32), (0x00403102, .mulU16U32S32), (0x00104102, .mulU16S32U16),
      (0x00204102, .mulU16S32S16), (0x00304102, .mulU16S32U32), (0x00404102, .mulU16S32S32),
      (0x00105102, .mulU16U64U16), (0x00205102, .mulU16U64S16), (0x00305102, .mulU16U64U32),
      (0x00405102, .mulU16U64S32), (0x00505102, .mulU16U64U64), (0x00605102, .mulU16U64S64),
      (0x00106102, .mulU16S64U16), (0x00206102, .mulU16S64S16), (0x00306102, .mulU16S64U32),
      (0x00406102, .mulU16S64S32), (0x00506102, .mulU16S64U64), (0x00606102, .mulU16S64S64),
      (0x00101202, .mulS16U16U16), (0x00201202, .mulS16U16S16), (0x00102202, .mulS16S16U16),
      (0x00202202, .mulS16S16S16), (0x00103202, .mulS16U32U16), (0x00203202, .mulS16U32S16),
      (0x00303202, .mulS16U32U32), (0x00403202, .mulS16U32S32), (0x00104202, .mulS16S32U16),
      (0x00204202, .mulS16S32S16), (0x00304202, .mulS16S32U32), (0x00404202, .mulS16S32S32)] = true := by decide +kernel

/-- MUL words from their fields (30_encoding R80 to R82). -/
theorem test_decode_mul_b : decodesTo
    [(0x00105202, .mulS16U64U16), (0x00205202, .mulS16U64S16), (0x00305202, .mulS16U64U32),
      (0x00405202, .mulS16U64S32), (0x00505202, .mulS16U64U64), (0x00605202, .mulS16U64S64),
      (0x00106202, .mulS16S64U16), (0x00206202, .mulS16S64S16), (0x00306202, .mulS16S64U32),
      (0x00406202, .mulS16S64S32), (0x00506202, .mulS16S64U64), (0x00606202, .mulS16S64S64),
      (0x00101302, .mulU32U16U16), (0x00201302, .mulU32U16S16), (0x00301302, .mulU32U16U32),
      (0x00401302, .mulU32U16S32), (0x00102302, .mulU32S16U16), (0x00202302, .mulU32S16S16),
      (0x00302302, .mulU32S16U32), (0x00402302, .mulU32S16S32), (0x00103302, .mulU32U32U16),
      (0x00203302, .mulU32U32S16), (0x00303302, .mulU32U32U32), (0x00403302, .mulU32U32S32),
      (0x00104302, .mulU32S32U16), (0x00204302, .mulU32S32S16), (0x00304302, .mulU32S32U32),
      (0x00404302, .mulU32S32S32), (0x00105302, .mulU32U64U16), (0x00205302, .mulU32U64S16),
      (0x00305302, .mulU32U64U32), (0x00405302, .mulU32U64S32), (0x00505302, .mulU32U64U64),
      (0x00605302, .mulU32U64S64), (0x00106302, .mulU32S64U16), (0x00206302, .mulU32S64S16)] = true := by decide +kernel

/-- MUL words from their fields (30_encoding R80 to R82). -/
theorem test_decode_mul_c : decodesTo
    [(0x00306302, .mulU32S64U32), (0x00406302, .mulU32S64S32), (0x00506302, .mulU32S64U64),
      (0x00606302, .mulU32S64S64), (0x00101402, .mulS32U16U16), (0x00201402, .mulS32U16S16),
      (0x00301402, .mulS32U16U32), (0x00401402, .mulS32U16S32), (0x00102402, .mulS32S16U16),
      (0x00202402, .mulS32S16S16), (0x00302402, .mulS32S16U32), (0x00402402, .mulS32S16S32),
      (0x00103402, .mulS32U32U16), (0x00203402, .mulS32U32S16), (0x00303402, .mulS32U32U32),
      (0x00403402, .mulS32U32S32), (0x00104402, .mulS32S32U16), (0x00204402, .mulS32S32S16),
      (0x00304402, .mulS32S32U32), (0x00404402, .mulS32S32S32), (0x00105402, .mulS32U64U16),
      (0x00205402, .mulS32U64S16), (0x00305402, .mulS32U64U32), (0x00405402, .mulS32U64S32),
      (0x00505402, .mulS32U64U64), (0x00605402, .mulS32U64S64), (0x00106402, .mulS32S64U16),
      (0x00206402, .mulS32S64S16), (0x00306402, .mulS32S64U32), (0x00406402, .mulS32S64S32),
      (0x00506402, .mulS32S64U64), (0x00606402, .mulS32S64S64), (0x00101502, .mulU64U16U16),
      (0x00201502, .mulU64U16S16), (0x00301502, .mulU64U16U32), (0x00401502, .mulU64U16S32)] = true := by decide +kernel

/-- MUL words from their fields (30_encoding R80 to R82). -/
theorem test_decode_mul_d : decodesTo
    [(0x00501502, .mulU64U16U64), (0x00601502, .mulU64U16S64), (0x00102502, .mulU64S16U16),
      (0x00202502, .mulU64S16S16), (0x00302502, .mulU64S16U32), (0x00402502, .mulU64S16S32),
      (0x00502502, .mulU64S16U64), (0x00602502, .mulU64S16S64), (0x00103502, .mulU64U32U16),
      (0x00203502, .mulU64U32S16), (0x00303502, .mulU64U32U32), (0x00403502, .mulU64U32S32),
      (0x00503502, .mulU64U32U64), (0x00603502, .mulU64U32S64), (0x00104502, .mulU64S32U16),
      (0x00204502, .mulU64S32S16), (0x00304502, .mulU64S32U32), (0x00404502, .mulU64S32S32),
      (0x00504502, .mulU64S32U64), (0x00604502, .mulU64S32S64), (0x00105502, .mulU64U64U16),
      (0x00205502, .mulU64U64S16), (0x00305502, .mulU64U64U32), (0x00405502, .mulU64U64S32),
      (0x00505502, .mulU64U64U64), (0x00605502, .mulU64U64S64), (0x00106502, .mulU64S64U16),
      (0x00206502, .mulU64S64S16), (0x00306502, .mulU64S64U32), (0x00406502, .mulU64S64S32),
      (0x00506502, .mulU64S64U64), (0x00606502, .mulU64S64S64), (0x00101602, .mulS64U16U16),
      (0x00201602, .mulS64U16S16), (0x00301602, .mulS64U16U32), (0x00401602, .mulS64U16S32)] = true := by decide +kernel

/-- MUL words from their fields (30_encoding R80 to R82). -/
theorem test_decode_mul_e : decodesTo
    [(0x00501602, .mulS64U16U64), (0x00601602, .mulS64U16S64), (0x00102602, .mulS64S16U16),
      (0x00202602, .mulS64S16S16), (0x00302602, .mulS64S16U32), (0x00402602, .mulS64S16S32),
      (0x00502602, .mulS64S16U64), (0x00602602, .mulS64S16S64), (0x00103602, .mulS64U32U16),
      (0x00203602, .mulS64U32S16), (0x00303602, .mulS64U32U32), (0x00403602, .mulS64U32S32),
      (0x00503602, .mulS64U32U64), (0x00603602, .mulS64U32S64), (0x00104602, .mulS64S32U16),
      (0x00204602, .mulS64S32S16), (0x00304602, .mulS64S32U32), (0x00404602, .mulS64S32S32),
      (0x00504602, .mulS64S32U64), (0x00604602, .mulS64S32S64), (0x00105602, .mulS64U64U16),
      (0x00205602, .mulS64U64S16), (0x00305602, .mulS64U64U32), (0x00405602, .mulS64U64S32),
      (0x00505602, .mulS64U64U64), (0x00605602, .mulS64U64S64), (0x00106602, .mulS64S64U16),
      (0x00206602, .mulS64S64S16), (0x00306602, .mulS64S64U32), (0x00406602, .mulS64S64S32),
      (0x00506602, .mulS64S64U64), (0x00606602, .mulS64S64S64)] = true := by decide +kernel

/-- MULW words from their fields (30_encoding R80 to R82). -/
theorem test_decode_mulw : decodesTo
    [(0x00503303, .mulwU32U32), (0x00604303, .mulwU32S32), (0x00603403, .mulwS32U32), (0x00604403, .mulwS32S32)] = true := by decide +kernel

/-- MULDIV words from their fields (30_encoding R80 to R82). -/
theorem test_decode_muldiv : decodesTo
    [(0x00133304, .muldivU32U32U32U16), (0x00233304, .muldivU32U32U32S16), (0x00333304, .muldivU32U32U32U32),
      (0x00433304, .muldivU32U32U32S32), (0x00143304, .muldivU32U32S32U16), (0x00243304, .muldivU32U32S32S16),
      (0x00343304, .muldivU32U32S32U32), (0x00443304, .muldivU32U32S32S32), (0x00134304, .muldivU32S32U32U16),
      (0x00234304, .muldivU32S32U32S16), (0x00334304, .muldivU32S32U32U32), (0x00434304, .muldivU32S32U32S32),
      (0x00144304, .muldivU32S32S32U16), (0x00244304, .muldivU32S32S32S16), (0x00344304, .muldivU32S32S32U32),
      (0x00444304, .muldivU32S32S32S32), (0x00133404, .muldivS32U32U32U16), (0x00233404, .muldivS32U32U32S16),
      (0x00333404, .muldivS32U32U32U32), (0x00433404, .muldivS32U32U32S32), (0x00143404, .muldivS32U32S32U16),
      (0x00243404, .muldivS32U32S32S16), (0x00343404, .muldivS32U32S32U32), (0x00443404, .muldivS32U32S32S32),
      (0x00134404, .muldivS32S32U32U16), (0x00234404, .muldivS32S32U32S16), (0x00334404, .muldivS32S32U32U32),
      (0x00434404, .muldivS32S32U32S32), (0x00144404, .muldivS32S32S32U16), (0x00244404, .muldivS32S32S32S16),
      (0x00344404, .muldivS32S32S32U32), (0x00444404, .muldivS32S32S32S32)] = true := by decide +kernel

/-- LIM words from their fields (30_encoding R80 to R82). -/
theorem test_decode_lim : decodesTo
    [(0x00100105, .limU16U16), (0x00200105, .limU16S16), (0x00300105, .limU16U32), (0x00400105, .limU16S32),
      (0x00500105, .limU16U64), (0x00600105, .limU16S64), (0x00100205, .limS16U16), (0x00200205, .limS16S16),
      (0x00300205, .limS16U32), (0x00400205, .limS16S32), (0x00500205, .limS16U64), (0x00600205, .limS16S64),
      (0x00100305, .limU32U16), (0x00200305, .limU32S16), (0x00300305, .limU32U32), (0x00400305, .limU32S32),
      (0x00500305, .limU32U64), (0x00600305, .limU32S64), (0x00100405, .limS32U16), (0x00200405, .limS32S16),
      (0x00300405, .limS32U32), (0x00400405, .limS32S32), (0x00500405, .limS32U64), (0x00600405, .limS32S64),
      (0x00100505, .limU64U16), (0x00200505, .limU64S16), (0x00300505, .limU64U32), (0x00400505, .limU64S32),
      (0x00500505, .limU64U64), (0x00600505, .limU64S64), (0x00100605, .limS64U16), (0x00200605, .limS64S16),
      (0x00300605, .limS64U32), (0x00400605, .limS64S32), (0x00500605, .limS64U64), (0x00600605, .limS64S64)] = true := by decide +kernel

/-- The words of the commands that reach memory (30_encoding R80 to R82). -/
theorem test_decode_memory_commands : decodesTo
    [(0x00000110, .dsearchU16), (0x00000210, .dsearchS16), (0x00000111, .curveU16), (0x00000211, .curveS16),
      (0x00000112, .mapU16), (0x00000212, .mapS16), (0x00000113, .mapgU16), (0x00000213, .mapgS16),
      (0x00000120, .savgU16), (0x00000220, .savgS16), (0x00000021, .deb), (0x00000030, .tstart),
      (0x00000031, .telapsed), (0x00000032, .tisstopped), (0x00000033, .tstop), (0x00000040, .crc8)] = true := by decide +kernel

/-! ## One step of each operation, results from 95_test_vectors -/

/-- V-D4: 0 / 0 of u64 by u32 is 1. -/
theorem test_div_zero_by_zero : resOf (call 0x00303501 0 0 0 bench [] []) = some 1 := by decide +kernel

/-- V-D1: the most negative value by -1 saturates. -/
theorem test_div_negation_saturates : resOf (call 0x00404401 (-2147483648) (-1) 0 bench [] []) = some 0x7FFFFFFF := by
  decide +kernel

/-- V-D9: truncation toward zero. -/
theorem test_div_truncates : resOf (call 0x00404401 (-7) 2 0 bench [] []) = some 0xFFFFFFFFFFFFFFFD := by decide +kernel

/-- V-D14 and V-D14p: 2^31 fits u32, and P_DIV_NEGOVF_MAX makes it the largest value. -/
theorem test_div_negovf_parameter : resOf (call 0x00304401 (-2147483648) (-1) 0 bench [] []) = some 0x80000000 ∧
    resOf (call 0x00304401 (-2147483648) (-1) 0 { bench with divNegovfMax := true } [] []) = some 0xFFFFFFFF := by
  decide +kernel

/-- V-M3 and V-M3p: the product of mixed signs, and P_MUL_MIXED_NEG_ZERO. -/
theorem test_mul_mixed_parameter : resOf (call 0x00403402 (-2) 3 0 bench [] []) = some 0xFFFFFFFFFFFFFFFA ∧
    resOf (call 0x00403402 (-2) 3 0 { bench with mulMixedNegZero := true } [] []) = some 0 := by decide +kernel

/-- V-M10: a product below the range. -/
theorem test_mul_saturates : resOf (call 0x00206102 1000 (-40) 0 bench [] []) = some 0xFFFFFFFFFFFF8000 := by
  decide +kernel

/-- V-M11: the largest product. -/
theorem test_mulw_unsigned : resOf (call 0x00503303 4294967295 4294967295 0 bench [] []) = some 0xFFFFFFFE00000001 := by
  decide +kernel

/-- V-M13: mixed signs. -/
theorem test_mulw_mixed : resOf (call 0x00604303 4294967295 (-2147483648) 0 bench [] []) = some 0x8000000080000000 := by
  decide +kernel

/-- V-K3: 0 / 0 through the unsigned 64-by-32 quotient. -/
theorem test_muldiv_zero_by_zero : resOf (call 0x00333304 0 5 0 bench [] []) = some 1 := by decide +kernel

/-- V-K11: a negative quotient limited to an unsigned type. -/
theorem test_muldiv_limits : resOf (call 0x00143404 (-4) 10 3 bench [] []) = some 0 := by decide +kernel

/-- V-K13. -/
theorem test_lim_above : resOf (call 0x00200405 70000 0 0 bench [] []) = some 0x7FFF := by decide +kernel

/-- V-K17. -/
theorem test_lim_below : resOf (call 0x00300605 (-1) 0 0 bench [] []) = some 0 := by decide +kernel

/-- V-S5b: the duplicate knot, the last of which the backward scan finds. -/
theorem test_dsearch_duplicate_knot :
    resOf (call 0x00000110 15 0x1100 0 bench (halfwords 0x1100 [4, 0, 10, 10, 20]) []) = some 0x24000 := by decide +kernel

/-- V-S10e: an element past the end of memory. -/
theorem test_dsearch_past_the_end :
    errOf (call 0x00000110 5 0xFFFFFFFE 0 bench (halfwords 0xFFFFFFFE [3]) []) = some .busErr := by decide +kernel

/-- V-S8: a falling curve truncates toward the first knot. -/
theorem test_curve_falling :
    resOf (call 0x00000111 1 0x1400 0 bench (halfwords 0x1400 [2, 0, 3, 100, 0]) []) = some 67 := by decide +kernel

/-- V-S9d: a falling negative curve of s16. -/
theorem test_curve_signed :
    resOf (call 0x00000211 1 0x1600 0 bench (halfwords 0x1600 [2, 0, 3, 0, -100]) []) = some 0xFFFFFFFFFFFFFFDF := by
  decide +kernel

/-- The record M1. -/
def mapM1 : Memory := halfwords 0x2000 [3, 3, 0, 10, 20, 0, 10, 20, 0, 10, 20, 100, 110, 120, 200, 220, 240]

/-- V-S11b. -/
theorem test_map_blend : resOf (call 0x00000112 15 5 0x2000 bench mapM1 []) = some 157 := by decide +kernel

/-- V-S12a and V-S12b: the two roundings of P_MAP_BLEND_ROUND. -/
theorem test_map_rounding :
    resOf (call 0x00000112 0 1 0x2100 bench (halfwords 0x2100 [2, 2, 0, 10, 0, 2, 1, 0, 1, 0]) []) = some 0 ∧
    resOf (call 0x00000112 0 1 0x2100 { bench with mapBlendRound := .trunc }
      (halfwords 0x2100 [2, 2, 0, 10, 0, 2, 1, 0, 1, 0]) []) = some 1 := by decide +kernel

/-- V-S13f. -/
theorem test_mapg_blend : resOf (call 0x00000113 0x14000 0x4000 0x2000 bench mapM1 []) = some 157 := by decide +kernel

/-- V-S13b: a ratio past the last knot. -/
theorem test_mapg_bad_operand : errOf (call 0x00000113 0x24000 0x20000 0x2000 bench mapM1 []) = some .precond := by
  decide +kernel

/-- V-A1, call 5: SUM, CURSOR with N, and BUF after it. -/
theorem test_savg_window :
    let t := call 0x00000120 0x3000 8 0x00040004 bench (halfwords 0x3000 [100, 0, 0, 4, 10, 20, 30, 40]) []
    resOf t = some 24 ∧ wordOf t 0x3000 = some 98 ∧ wordOf t 0x3004 = some 0x00040001 ∧
      wordOf t 0x3008 = some 0x00140008 := by decide +kernel

/-- V-A2, call 3: a negative sum truncates toward zero, and the cursor wraps. -/
theorem test_savg_negative :
    let t := call 0x00000220 0x3100 (-31) 0x00030003 bench (halfwords 0x3100 [-30, -1, 2, 3, -10, -20, 0]) []
    resOf t = some 0xFFFFFFFFFFFFFFEC ∧ wordOf t 0x3100 = some 0xFFFFFFC3 ∧ wordOf t 0x3104 = some 0x00030000 := by
  decide +kernel

/-- V-E15: a bus error on a write leaves the earlier write. -/
theorem test_savg_write_error :
    let t := call 0x00000120 0x9FF8 5 0x00020002 bench (halfwords 0x9FF8 [30, 0, 1, 2, 10, 20])
      [{ lo := 0xA000, hi := 0x100000000, kind := .writeFails }]
    errOf t = some .busErr ∧ wordOf t 0x9FF8 = some 15 ∧ wordOf t 0x9FFC = some 0x00020001 ∧
      wordOf t 0xA000 = some 0x0014000A := by decide +kernel

/-- V-B5, call 2: the accumulator saturates and the state flips. -/
theorem test_deb_saturates :
    let t := call 0x00000021 0x4000 1 256 bench (words 0x4000 [0, 0xFFFFFFFE, 0xFFFFFFFF, 200]) []
    resOf t = some 1 ∧ wordOf t 0x4000 = some 1 ∧ wordOf t 0x4004 = some 0 := by decide +kernel

/-- V-B8: bit 0 of OPB alone is the raw input. -/
theorem test_deb_raw_bit :
    resOf (call 0x00000021 0x4000 2 5 bench (words 0x4000 [0, 0, 1, 1]) []) = some 0 := by decide +kernel

/-- V-T9: `now` is stored. -/
theorem test_tstart_stores : wordOf (call 0x00000030 0x5000 0xFFFFFFF0 0 bench [] []) 0x5000 = some 0xFFFFFFF0 := by
  decide +kernel

/-- V-T10: time across the wrap. -/
theorem test_telapsed_wraps : resOf (call 0x00000031 0x5000 0x10 0 bench (words 0x5000 [0xFFFFFFF0]) []) = some 0x20 := by
  decide +kernel

/-- V-T1 and V-T3. -/
theorem test_tisstopped : resOf (call 0x00000032 0x5000 0 0 bench [] []) = some 1 ∧
    resOf (call 0x00000032 0x5000 0 0 bench (words 0x5000 [100]) []) = some 0 := by decide +kernel

/-- V-T6 and V-T18: the record is cleared, also at the last word of memory. -/
theorem test_tstop_clears : wordOf (call 0x00000033 0x5000 0 0 bench (words 0x5000 [100]) []) 0x5000 = some 0 ∧
    resOf (call 0x00000033 0xFFFFFFFC 0 0 bench [] []) = some 0 := by decide +kernel

/-- V-C1 and V-C2: the check string, and P_CRC_XOROUT. -/
theorem test_crc8_check_string :
    resOf (call 0x00000040 0x6000 9 0 bench (bytes 0x6000 [0x31, 0x32, 0x33, 0x34, 0x35, 0x36, 0x37, 0x38, 0x39]) []) =
      some 0x20 ∧
    resOf (call 0x00000040 0x6000 9 0 { bench with crcXorOut := 0xFF }
      (bytes 0x6000 [0x31, 0x32, 0x33, 0x34, 0x35, 0x36, 0x37, 0x38, 0x39]) []) = some 0xDF := by decide +kernel

/-- V-C8: a buffer past the end of memory. -/
theorem test_crc8_past_the_end :
    errOf (call 0x00000040 0xFFFFFFFE 4 0 bench (bytes 0xFFFFFFFE [0x31, 0x32]) []) = some .busErr := by decide +kernel

/-- V-E16: MISALIGNED before PRECOND. -/
theorem test_priority_misaligned :
    errOf (call 0x00000110 5 0x1001 0 bench (bytes 0x1001 [1]) []) = some .misaligned := by decide +kernel

/-- V-E17: a bus error on an element before the check of the order. -/
theorem test_priority_buserr :
    errOf (call 0x00000110 5 0x1000 0 bench (halfwords 0x1000 [3, 20, 10, 5])
      [{ lo := 0x1004, hi := 0x1006, kind := .readFails }]) = some .busErr := by decide +kernel

/-- V-E1: an illegal word ends at once, RES unchanged and STATUS 0x10. -/
theorem test_illegal_word :
    (nextOf (step { idle [.regWrite 0x40000000 4 0x00000000] with res := 0x1234 })).map
      (fun t => (statusWord t, t.res, t.busy)) = some (0x10, 0x1234, false) := by decide +kernel

/-- V-E13: an accepted legal command clears ERR. -/
theorem test_legal_word_clears_err :
    (nextOf (step { idle [.regWrite 0x40000000 4 0x00404401] with err := .illegal })).map
      (fun t => (statusWord t, t.cmdL)) = some (0x1, 0x00404401) := by decide +kernel

/-! ## Witnesses: for every statement with hypotheses, states and operands that meet them -/

/-- An illegal word while BUSY = 0. -/
theorem witness_LegalExactlyWhenAdmitted : State.reset.busy = false ∧ legal 0x01404401 = false ∧
    legal 0x00404401 = true := by decide +kernel

/-- The least word with a reserved bit, and the greatest without one, whose OP is unassigned. -/
theorem witness_IllegalWordsRejectedByName :
    0x1000000 ≤ (0x01000000 : BitVec 32).toNat ∧ (0x00FFFFFF : BitVec 32).toNat < 0x1000000 ∧
    (0x00FFFFFF : BitVec 32).toNat % 0x100 ∉
      [0x01, 0x02, 0x03, 0x04, 0x05, 0x10, 0x11, 0x12, 0x13, 0x20, 0x21, 0x30, 0x31, 0x32, 0x33, 0x40] := by
  decide +kernel

/-- A reset that asks for no access in flight, and a power cycle. -/
theorem witness_ResetClearsRegistersKeepsMemory :
    (running 0x30 0x5000 7 0 [] [.reset false]).inputs = .reset false :: [] ∧
      (running 0x30 0x5000 7 0 [] [.powerCycle]).inputs = .powerCycle :: [] := ⟨rfl, rfl⟩

/-- A reset during TSTART with its write in flight and with none, and one during TELAPSED with its read in flight. -/
theorem witness_ResetNeverSplitsAWrite :
    (∃ t, step (running 0x30 0x5000 7 0 [] [.reset true]) = .next t ∧ t.mem = storeMem [] 0x5000 .b4 7) ∧
    ((nextOf (unitTurn (some 1) (running 0x30 0x5000 7 0 [] []))).map State.progress =
      some [{ addr := 0x5000, size := .b4, isWrite := true, value := 7, old := 0 }]) ∧
    (∃ t, step (running 0x30 0x5000 7 0 [] [.reset false]) = .next t ∧ t.mem = []) ∧
    ((nextOf (unitTurn (some 1) (running 0x31 0x5000 7 0 [] []))).map State.progress =
      some [{ addr := 0x5000, size := .b4, isWrite := false, value := 0, old := 0 }]) ∧
    ∃ t, step (running 0x31 0x5000 7 0 [] [.reset true]) = .next t ∧ t.mem = [] :=
  ⟨⟨_, eq_next_after (by decide +kernel), by decide +kernel⟩, by decide +kernel,
    ⟨_, eq_next_after (by decide +kernel), by decide +kernel⟩, by decide +kernel,
    ⟨_, eq_next_after (by decide +kernel), by decide +kernel⟩⟩

/-- A CMD write to a busy unit, and a legal and an illegal one to an idle unit. -/
theorem witness_CmdWriteStartsLosesOrRejects :
    ((running 0x30 0 0 0 [] [.regWrite (pBase bench) 4 0x33]).inputs = .regWrite (pBase bench) 4 0x33 :: [] ∧
      (running 0x30 0 0 0 [] []).busy = true) ∧
    (idle [.regWrite (pBase bench) 4 0x33]).busy = false ∧ legal 0x33 = true ∧ legal 0x34 = false := by decide +kernel

/-- The first and the last operand half, while a command runs. -/
theorem witness_OperandHalfWrites :
    (0x08 ∈ [0x08, 0x0C, 0x10, 0x14, 0x18, 0x1C] ∧ 0x1C ∈ [0x08, 0x0C, 0x10, 0x14, 0x18, 0x1C]) ∧
    (running 0x30 0 0 0 [] [.regWrite (pBase bench + BitVec.ofNat 32 0x08) 4 5]).inputs =
      .regWrite (pBase bench + BitVec.ofNat 32 0x08) 4 5 :: [] ∧
    (idle [.regWrite (pBase bench + BitVec.ofNat 32 0x1C) 4 5]).inputs =
      .regWrite (pBase bench + BitVec.ofNat 32 0x1C) 4 5 :: [] := by decide +kernel

/-- The first register, RES while busy and while idle, the first and the last reserved offset. -/
theorem witness_RegisterReads :
    (∀ off ∈ [0x00, 0x04, 0x08, 0x0C, 0x10, 0x14, 0x18, 0x1C, 0x20, 0x24, 0x28, 0xFC], off < 256 ∧ off % 4 = 0) ∧
    ∀ off ∈ [0x00, 0x20, 0x24, 0x28, 0xFC],
      (idle [.regRead (pBase bench + BitVec.ofNat 32 off) 4]).inputs =
        .regRead (pBase bench + BitVec.ofNat 32 off) 4 :: [] ∧ (idle []).busy = false ∧
      (running 0x30 0 0 0 [] [.regRead (pBase bench + BitVec.ofNat 32 off) 4]).inputs =
        .regRead (pBase bench + BitVec.ofNat 32 off) 4 :: [] ∧ (running 0x30 0 0 0 [] []).busy = true := by decide +kernel

/-- The read-only offsets at their ends, a halfword access, and a word access at offset 2. -/
theorem witness_ReadOnlyAndMalformedAccesses :
    (∀ off ∈ [0x04, 0x20, 0xFC], (idle [.regWrite (pBase bench + BitVec.ofNat 32 off) 4 5]).inputs =
        .regWrite (pBase bench + BitVec.ofNat 32 off) 4 5 :: [] ∧ off % 4 = 0 ∧ (off = 0x04 ∨ 0x20 ≤ off) ∧ off < 256) ∧
    (∀ off ∈ [0x28, 0xFC], (idle [.regRead (pBase bench + BitVec.ofNat 32 off) 4]).inputs =
        .regRead (pBase bench + BitVec.ofNat 32 off) 4 :: [] ∧ off % 4 = 0 ∧ 0x28 ≤ off ∧ off < 256) ∧
    ((idle [.regWrite (pBase bench + BitVec.ofNat 32 0) 2 5]).inputs =
        .regWrite (pBase bench + BitVec.ofNat 32 0) 2 5 :: [] ∧ (2 ≠ 4 ∨ 0 % 4 ≠ 0)) ∧
    ((idle [.regRead (pBase bench + BitVec.ofNat 32 255) 4]).inputs =
        .regRead (pBase bench + BitVec.ofNat 32 255) 4 :: [] ∧ (4 ≠ 4 ∨ 255 % 4 ≠ 0)) := by decide +kernel

/-- A busy unit with nothing to come, one with a turn to come, and a word that decodes. -/
theorem witness_StepRunsTheLatchedCommand :
    ((running 0x30 0x5000 7 0 [] []).busy = true ∧ decodeWord (running 0x30 0x5000 7 0 [] []).cmdL = .ok .tstart ∧
      (running 0x30 0x5000 7 0 [] []).inputs = []) ∧
    (running 0x30 0x5000 7 0 [] [.unitTurn (some 1)]).inputs = .unitTurn (some 1) :: [] ∧
    decodeTableWord 32 0x00404401 = some .divS32S32S32 := by decide +kernel

/-- An idle unit with nothing to come, and with a turn to come. -/
theorem witness_IdleUnitDoesNothing :
    ((idle []).busy = false ∧ (idle []).inputs = []) ∧
    (idle [.unitTurn none]).busy = false ∧ (idle [.unitTurn none]).inputs = .unitTurn none :: [] := by decide +kernel

/-- A command that changes memory, and one that records a race. -/
theorem witness_NoCommandChangesItsSurroundings :
    (∃ t, exec .tstart (ready 0x5000 7 0 []) = .next t ∧ t.mem ≠ []) ∧
    ∃ t, exec .tstop { ready 0x5000 7 0 [] with raceFault := true } = .next t ∧ t.raceFault = true :=
  ⟨⟨_, eq_next_after (by decide +kernel), by decide +kernel⟩, ⟨_, eq_next_after (by decide +kernel), by decide +kernel⟩⟩

/-- A platform with a failing region and no device, and a unit left to run. -/
theorem witness_EveryCommandEnds :
    (∀ r ∈ ({ ready 0x5000 7 0 [] with platform := [{ lo := 0, hi := 8, kind := .absent }] } : State).platform,
      r.kind ≠ .device) ∧ (ready 0x5000 7 0 []).grant = none := by decide +kernel

/-- A busy unit, which a turn of one step leaves busy and a turn of four does not. -/
theorem witness_SlicedRunEqualsWholeRun :
    (ready 5 0x1000 0 (halfwords 0x1000 [2, 0, 10])).busy = true ∧
    (after (exec .dsearchU16 { ready 5 0x1000 0 (halfwords 0x1000 [2, 0, 10]) with grant := some 1 })).busy = true ∧
    (after (exec .dsearchU16 { ready 5 0x1000 0 (halfwords 0x1000 [2, 0, 10]) with grant := some 4 })).busy = false := by
  decide +kernel

/-- A command that ends with PRECOND, one with MISALIGNED, one with BUSERR and one normally. -/
theorem witness_ErrorCodesOfEachCommand :
    ((ready 5 0x1000 0 []).err = .none ∧ (ready 5 0x1000 0 []).grant = none ∧ (ready 5 0x1000 0 []).progress = []) ∧
    (∃ t, exec .dsearchU16 (ready 5 0x1000 0 []) = .next t ∧ t.err = .precond) ∧
    (∃ t, exec .deb (ready 0x4702 1 1 []) = .next t ∧ t.err = .misaligned) ∧
    (∃ t, exec .crc8 (ready 0xFFFFFFFF 2 0 []) = .next t ∧ t.err = .busErr) ∧
    ∃ t, exec .divU64U32U32 (ready 0 0 0 []) = .next t ∧ t.err = .none :=
  ⟨by decide +kernel, ⟨_, eq_next_after (by decide +kernel), by decide +kernel⟩,
    ⟨_, eq_next_after (by decide +kernel), by decide +kernel⟩, ⟨_, eq_next_after (by decide +kernel), by decide +kernel⟩,
    ⟨_, eq_next_after (by decide +kernel), by decide +kernel⟩⟩

/-- The least and the greatest value of a type, and a bit above its width. -/
theorem witness_ResultsReadBack : (Ty.s16.min ≤ -32768 ∧ (-32768 : Int) ≤ Ty.s16.max) ∧
    (Ty.u32.min ≤ 4294967295 ∧ (4294967295 : Int) ≤ Ty.u32.max) ∧ Ty.s16.width ≤ 16 ∧ Ty.u32.width ≤ 63 := by decide

/-- Each clause: 0 / 0 of u64 by u32, a zero divisor under X = 0 and under X = -1, a divisor that is not 0. -/
theorem witness_DivisionResult :
    (Instr.divU64U32U32.form = .div .u64 .u32 .u32 ∧ (ready 0 0 0 []).grant ≠ some 0 ∧
      val (ready 0 0 0 []).bL .u32 = 0 ∧ val (ready 0 0 0 []).aL .u64 = 0) ∧
    (Instr.divS64U32U32.form = .div .s64 .u32 .u32 ∧ ¬ (Ty.s64 = .u64 ∧ Ty.u32 = .u32 ∧ val (ready 0 0 0 []).aL .s64 = 0) ∧
      0 ≤ val (ready 0 0 0 []).aL .s64) ∧
    val (ready (-1) 0 0 []).aL .s64 < 0 ∧
    (val (ready 7 (-1) 0 []).bL .s32 ≠ 0 ∧ ¬ ((ready 7 (-1) 0 []).params.divNegovfMax = true ∧ Ty.s32.signed = true ∧
      val (ready 7 (-1) 0 []).aL .s32 = Ty.s32.min ∧ val (ready 7 (-1) 0 []).bL .s32 = -1 ∧ Ty.s32.signed = false ∧
      Ty.s32.width = Ty.s32.width)) := by decide +kernel

/-- min(NT) by -1 with a narrow, an equal and a wider result type. -/
theorem witness_DivisionNegationOverflow :
    (Instr.divS16S16S16.form = .div .s16 .s16 .s16 ∧ Instr.divS16S16U16.form = .div .s16 .s16 .u16 ∧
      Instr.divS16S16U32.form = .div .s16 .s16 .u32) ∧
    (ready (-32768) (-1) 0 []).grant ≠ some 0 ∧ Ty.s16.signed = true ∧ val (ready (-32768) (-1) 0 []).aL .s16 = Ty.s16.min ∧
    val (ready (-32768) (-1) 0 []).bL .s16 = -1 := by decide +kernel

/-- The greatest numerator and divisor, and the least divisor. -/
theorem witness_LongDivisionGivesTheQuotient :
    ((0xFFFFFFFFFFFFFFFF : Nat) < 2 ^ 64 ∧ 0 < 0xFFFFFFFF ∧ 0xFFFFFFFF < 2 ^ 32 ∧ 0 < 1) ∧
    Instr.divU64U32S32.form = .div .u64 .u32 .s32 ∧ (ready 9 1 0 []).grant ≠ some 0 ∧ val (ready 9 1 0 []).bL .u32 ≠ 0 := by
  decide +kernel

/-- A product of mixed signs under P_MUL_MIXED_NEG_ZERO, negative on either side, and one without the parameter. -/
theorem witness_MultiplicationResult :
    (Instr.mulS32U32S32.form = .mul .s32 .u32 .s32 ∧ Instr.mulU32S32S32.form = .mul .u32 .s32 .s32) ∧
    (ready (-1) 3 0 []).grant ≠ some 0 ∧ ({ bench with mulMixedNegZero := true } : Config.Params).mulMixedNegZero = true ∧
    val (ready (-1) 3 0 []).aL .s32 < 0 ∧ val (ready 3 (-1) 0 []).bL .s32 < 0 ∧ Ty.s32.signed = true ∧
    (ready (-1) 3 0 []).params.mulMixedNegZero = false := by decide +kernel

/-- The two orders of a product. -/
theorem witness_MultiplicationCommutes : Instr.mulS32U32S32.form = .mul .s32 .u32 .s32 ∧
    Instr.mulU32S32S32.form = .mul .u32 .s32 .s32 ∧ (ready (-1) 3 0 []).grant ≠ some 0 := by decide +kernel

/-- Unsigned and mixed operands. -/
theorem witness_WideningMultiplicationIsExact : Instr.mulwU32U32.form = .mulw .u32 .u32 ∧
    Instr.mulwU32S32.form = .mulw .u32 .s32 ∧ (ready 4294967295 (-2147483648) 0 []).grant ≠ some 0 := by decide +kernel

/-- Z not 0; Z = 0 in the 0 / 0 case; Z = 0 with a product 0 of other types, and with a negative one. -/
theorem witness_MultiplyDivideResult :
    (Instr.muldivU32U32U32U32.form = .muldiv .u32 .u32 .u32 .u32 ∧ Instr.muldivS32S32S32S32.form = .muldiv .s32 .s32 .s32 .s32 ∧
      (ready 0 5 0 []).grant ≠ some 0) ∧
    val (ready 5 7 (-1) []).cL .s32 ≠ 0 ∧
    (val (ready 0 5 0 []).cL .u32 = 0 ∧ val (ready 0 5 0 []).aL .u32 * val (ready 0 5 0 []).bL .u32 = 0) ∧
    (val (ready 0 5 0 []).cL .s32 = 0 ∧ 0 ≤ val (ready 0 5 0 []).aL .s32 * val (ready 0 5 0 []).bL .s32) ∧
    (val (ready (-1) 5 0 []).cL .s32 = 0 ∧ val (ready (-1) 5 0 []).aL .s32 * val (ready (-1) 5 0 []).bL .s32 < 0) := by
  decide +kernel

/-- Two types, and one type. -/
theorem witness_LimiterResult : Instr.limS32S16.form = .lim .s32 .s16 ∧ Instr.limS32S32.form = .lim .s32 .s32 ∧
    (ready 70000 0 0 []).grant ≠ some 0 := by decide +kernel

/-- A distribution of three knots, the record D1, with a query at its first knot, at its last, and between two. -/
theorem witness_DistributionSearchResult : ∀ x ∈ [0, 20, 15],
    let s := ready x 0x1000 0 (halfwords 0x1000 [3, 0, 10, 20])
    Instr.dsearchU16.form = .dsearch .u16 ∧ Undisturbed s = true ∧ addrOf s.bL % 2 = 0 ∧ countAt s.mem (addrOf s.bL) = 3 ∧
    (∀ k, k < 4 → readable s (addrOf s.bL + 2 * k) .b2 = true) ∧
    nonDecreasing (tableElems s.mem (addrOf s.bL + 2) .u16 3) = true ∧
    tableElems s.mem (addrOf s.bL + 2) .u16 3 = [0, 10, 20] := by decide +kernel

/-- One knot, and two knots that decrease; a map with one knot on an axis, and with decreasing knots on an axis. -/
theorem witness_MalformedTablesRejected :
    (∀ l ∈ [[1, 5], [2, 6, 5]],
      let s := ready 0 0x1000 0 (halfwords 0x1000 l)
      Instr.dsearchU16.form = .dsearch .u16 ∧ Instr.curveU16.form = .curve .u16 ∧ Undisturbed s = true ∧
      addrOf s.bL % 2 = 0 ∧ (∀ k, k < countAt s.mem (addrOf s.bL) + 1 → readable s (addrOf s.bL + 2 * k) .b2 = true) ∧
      (countAt s.mem (addrOf s.bL) < 2 ∨
        nonDecreasing (tableElems s.mem (addrOf s.bL + 2) .u16 (countAt s.mem (addrOf s.bL))) = false)) ∧
    ∀ l ∈ [[1, 2, 0, 0, 5], [2, 1, 0, 5, 0], [2, 2, 10, 0, 0, 1], [2, 2, 0, 10, 1, 0]],
      let s := ready 0 0 0x2000 (halfwords 0x2000 l)
      Instr.mapU16.form = .map .u16 ∧ Undisturbed s = true ∧ addrOf s.cL % 2 = 0 ∧
      (∀ k, k < 2 + countAt s.mem (addrOf s.cL) + countAt s.mem (addrOf s.cL + 2) →
        readable s (addrOf s.cL + 2 * k) .b2 = true) ∧
      (countAt s.mem (addrOf s.cL) < 2 ∨ countAt s.mem (addrOf s.cL + 2) < 2 ∨
        nonDecreasing (tableElems s.mem (addrOf s.cL + 4) .u16 (countAt s.mem (addrOf s.cL))) = false ∨
        nonDecreasing (tableElems s.mem (addrOf s.cL + 4 + 2 * countAt s.mem (addrOf s.cL)) .u16
          (countAt s.mem (addrOf s.cL + 2))) = false) := by decide +kernel

/-- The curve C1, with a query at its first knot, at its last, and at an inner one. -/
theorem witness_CurveResult : ∀ x ∈ [0, 20, 10],
    let s := ready x 0x1300 0 (halfwords 0x1300 [3, 0, 10, 20, 0, 100, 300])
    Instr.curveU16.form = .curve .u16 ∧ Undisturbed s = true ∧ addrOf s.bL % 2 = 0 ∧ countAt s.mem (addrOf s.bL) = 3 ∧
    (∀ k, k < 7 → readable s (addrOf s.bL + 2 * k) .b2 = true) ∧
    nonDecreasing (tableElems s.mem (addrOf s.bL + 2) .u16 3) = true ∧
    elemAt s.mem (addrOf s.bL + 2) .u16 0 = 0 ∧ elemAt s.mem (addrOf s.bL + 2) .u16 2 = 20 := by decide +kernel

/-- The widest bracket and the greatest differences, and a query at the lower knot. -/
theorem witness_CurveStaysBetweenItsKnots :
    ((-32768 : Int) ≤ -32768 ∧ (-32768 : Int) ≤ 32766 ∧ (32766 : Int) < 32767 ∧ (32767 : Int) - -32768 ≤ 65535 ∧
      (-65535 : Int) ≤ 0 - 65535 ∧ (0 : Int) - 65535 ≤ 65535) ∧ ((-32768 : Int) ≤ 5 ∧ (5 : Int) ≤ 5 ∧ (5 : Int) < 6) := by
  decide

/-- The map M1 with queries at, between and beyond its knots. -/
theorem witness_MapResult : ∀ x ∈ [(0, 20), (15, 5), (100, 0)],
    let s := ready x.1 x.2 0x2000 mapM1
    Instr.mapU16.form = .map .u16 ∧ Undisturbed s = true ∧ addrOf s.cL = 0x2000 ∧ countAt s.mem 0x2000 = 3 ∧
    countAt s.mem 0x2002 = 3 ∧ (∀ k, k < 17 → readable s (0x2000 + 2 * k) .b2 = true) ∧
    nonDecreasing (tableElems s.mem 0x2004 .u16 3) = true ∧ nonDecreasing (tableElems s.mem 0x200A .u16 3) = true := by
  decide +kernel

/-- Packed operands at their bounds: the last index with ratio 0, and the last but one with the greatest ratio. -/
theorem witness_GroupedMapResult : ∀ x ∈ [(0x20000, 0x17FFF), (0x17FFF, 0x20000), (0, 0)],
    let s := ready x.1 x.2 0x2000 mapM1
    Instr.mapgU16.form = .mapg .u16 ∧ Undisturbed s = true ∧ addrOf s.cL = 0x2000 ∧ countAt s.mem 0x2000 = 3 ∧
    countAt s.mem 0x2002 = 3 ∧ (∀ k, k < 17 → readable s (0x2000 + 2 * k) .b2 = true) ∧
    low16 s.aL < 32768 ∧ low16 s.bL < 32768 ∧ high16 s.aL < 3 ∧ high16 s.bL < 3 ∧
    (low16 s.aL ≠ 0 → high16 s.aL + 2 ≤ 3) ∧ (low16 s.bL ≠ 0 → high16 s.bL + 2 ≤ 3) := by decide +kernel

/-- Each reason to reject packed operands, at its bound. -/
theorem witness_GroupedMapRejectsBadOperands :
    (∀ x ∈ [(0x08000, 0), (0, 0x08000), (0x30000, 0), (0, 0x30000), (0x20001, 0), (0, 0x20001)],
      let s := ready x.1 x.2 0x2000 mapM1
      Instr.mapgU16.form = .mapg .u16 ∧ Undisturbed s = true ∧ countAt s.mem (addrOf s.cL) = 3 ∧
      countAt s.mem (addrOf s.cL + 2) = 3 ∧ addrOf s.cL % 2 = 0 ∧
      (∀ k, k < 2 → readable s (addrOf s.cL + 2 * k) .b2 = true) ∧
      (32768 ≤ low16 s.aL ∨ 32768 ≤ low16 s.bL ∨ 3 ≤ high16 s.aL ∨ 3 ≤ high16 s.bL ∨
        (low16 s.aL ≠ 0 ∧ high16 s.aL = 3 - 1) ∨ (low16 s.bL ≠ 0 ∧ high16 s.bL = 3 - 1))) ∧
    ∀ l ∈ [[1, 2], [2, 1]],
      let s := ready 0 0 0x2000 (halfwords 0x2000 l)
      countAt s.mem (addrOf s.cL) < 2 ∨ countAt s.mem (addrOf s.cL + 2) < 2 := by decide +kernel

/-- The map M1, and DSEARCH on distribution records with the knots of its two axes. -/
theorem witness_MapEqualsTwoSearchesThenGroupedMap :
    let s := ready 15 5 0x2000 mapM1
    let sx := ready 15 0x1000 0 (halfwords 0x1000 [3, 0, 10, 20])
    let sy := ready 5 0x1000 0 (halfwords 0x1000 [3, 0, 10, 20])
    (Instr.mapU16.form = .map .u16 ∧ Instr.dsearchU16.form = .dsearch .u16 ∧ Instr.mapgU16.form = .mapg .u16 ∧
      Undisturbed s = true ∧ addrOf s.cL = 0x2000 ∧ countAt s.mem 0x2000 = 3 ∧ countAt s.mem 0x2002 = 3 ∧
      (∀ k, k < 17 → readable s (0x2000 + 2 * k) .b2 = true) ∧
      nonDecreasing (tableElems s.mem 0x2004 .u16 3) = true ∧ nonDecreasing (tableElems s.mem 0x200A .u16 3) = true) ∧
    (Undisturbed sx = true ∧ sx.err = .none ∧ countAt sx.mem (addrOf sx.bL) = 3 ∧
      tableElems sx.mem (addrOf sx.bL + 2) .u16 3 = tableElems s.mem 0x2004 .u16 3 ∧ val sx.aL .u32 = val s.aL .u32 ∧
      (nextOf (exec .dsearchU16 sx)).map (·.err) = some .none) ∧
    (Undisturbed sy = true ∧ sy.err = .none ∧ countAt sy.mem (addrOf sy.bL) = 3 ∧
      tableElems sy.mem (addrOf sy.bL + 2) .u16 3 = tableElems s.mem 0x200A .u16 3 ∧ val sy.aL .u32 = val s.bL .u32 ∧
      (nextOf (exec .dsearchU16 sy)).map (·.err) = some .none) := by decide +kernel

/-- The greatest ratio, under SHIFT. -/
theorem witness_BlendStaysBetweenItsValues : 32767 < 32768 ∧ bench.mapBlendRound = .shift := by decide

/-- A window with its cursor at the last slot, the count below maxc and at maxc. -/
theorem witness_SlidingAverageResult : ∀ c ∈ [0x00040003, 0x00040004],
    let s := ready 0x3000 8 c (halfwords 0x3000 [60, 0, 3, 4, 10, 20, 30, 0])
    Instr.savgU16.form = .savg .u16 ∧ Undisturbed s = true ∧ addrOf s.aL = 0x3000 ∧ countAt s.mem 0x3004 = 3 ∧
    countAt s.mem 0x3006 = 4 ∧ readable s 0x3000 .b4 = true ∧ readable s 0x3004 .b2 = true ∧
    readable s 0x3006 .b2 = true ∧ readable s 0x300E .b2 = true ∧ writable s 0x3000 .b4 = true ∧
    writable s 0x300E .b2 = true ∧ writable s 0x3004 .b2 = true := by decide +kernel

/-- A consistent record on which SAVG ends normally. -/
theorem witness_SlidingAverageKeepsTheRecordConsistent :
    let s := ready 0x3000 8 0x00040004 (halfwords 0x3000 [100, 0, 3, 4, 10, 20, 30, 40])
    Instr.savgU16.form = .savg .u16 ∧ Undisturbed s = true ∧ s.err = .none ∧ Memory.wf s.mem = true ∧
    (loadMem s.mem (addrOf s.aL) .b4 = BitVec.ofInt 32 (bufSum s.mem (addrOf s.aL) .u16 (countAt s.mem (addrOf s.aL + 6))) ∧
      countAt s.mem (addrOf s.aL + 4) < countAt s.mem (addrOf s.aL + 6)) ∧
    (nextOf (exec .savgU16 s)).map (·.err) = some .none := by decide +kernel

/-- A record with N = 0, and one with CURSOR = N. -/
theorem witness_SlidingAverageRejectsBadRecords : ∀ l ∈ [[0, 0, 0, 0], [0, 0, 4, 4]],
    let s := ready 0x3500 5 0x00040001 (halfwords 0x3500 l)
    Instr.savgU16.form = .savg .u16 ∧ Undisturbed s = true ∧ addrOf s.aL % 4 = 0 ∧ readable s (addrOf s.aL) .b4 = true ∧
    readable s (addrOf s.aL + 4) .b2 = true ∧ readable s (addrOf s.aL + 6) .b2 = true ∧
    (countAt s.mem (addrOf s.aL + 6) = 0 ∨ countAt s.mem (addrOf s.aL + 6) ≤ countAt s.mem (addrOf s.aL + 4)) := by
  decide +kernel

/-- Raw equal to ACCEPTED; raw different with the settle time reached exactly, and one short of it. -/
theorem witness_DebounceResult : ∀ x ∈ [(0, 1), (1, 1), (1, 0)],
    let s := ready 0x4000 x.1 x.2 (words 0x4000 [0, 9, 10, 200])
    Undisturbed s = true ∧ addrOf s.aL % 4 = 0 ∧ loadMem s.mem (addrOf s.aL) .b4 = 0 ∧
    (loadMem s.mem (addrOf s.aL + 4) .b4).toNat + (low32 s.cL).toNat = (if x.2 = 1 then 10 else 9) ∧
    (loadMem s.mem (addrOf s.aL + 8) .b4).toNat = 10 ∧ s.bL.getLsbD 0 = decide (x.1 = 1) ∧
    (∀ k, k < 4 → readable s (addrOf s.aL + 4 * k) .b4 = true) ∧ writable s (addrOf s.aL) .b4 = true ∧
    writable s (addrOf s.aL + 4) .b4 = true := by decide +kernel

/-- Deltas that sum to one less than the settle time, and a last one that reaches it. -/
theorem witness_DebounceAcceptsAtTheSettleTime :
    ((10 : Nat) < 2 ^ 32 ∧ (200 : Nat) < 2 ^ 32 ∧ [4, 5].sum < (if false then 200 else 10) ∧
      (if false then 200 else 10) ≤ [4, 5].sum + 1) := by decide

/-- TSTART and TSTOP on a writable record, memory in canonical form. -/
theorem witness_TimerStartAndStop :
    let s := ready 0x5000 7 0 []
    Undisturbed s = true ∧ addrOf s.aL % 4 = 0 ∧ writable s (addrOf s.aL) .b4 = true ∧
    (Instr.tstart.form = .tstart ∧ low32 s.bL = 7) ∧ Instr.tstop.form = .tstop ∧ Memory.wf s.mem = true := by decide +kernel

/-- A timer record that was started, at the last word of memory. -/
theorem witness_TimerElapsed :
    let s := ready 0xFFFFFFFC 0x10 0 (words 0xFFFFFFFC [0xFFFFFFF0])
    Undisturbed s = true ∧ addrOf s.aL % 4 = 0 ∧ readable s (addrOf s.aL) .b4 = true := by decide +kernel

/-- A readable and writable record, and the time 0. -/
theorem witness_TimerIsStopped :
    let s := ready 0x5000 0 0 []
    Undisturbed s = true ∧ Memory.wf s.mem = true ∧ addrOf s.aL % 4 = 0 ∧ readable s (addrOf s.aL) .b4 = true ∧
    writable s (addrOf s.aL) .b4 = true ∧ low32 s.bL = 0 := by decide +kernel

/-- No bytes, and two bytes that end memory. -/
theorem witness_CrcResult : ∀ x ∈ [(0, 0), (0xFFFFFFFE, 2)],
    let s := ready x.1 x.2 0 []
    Undisturbed s = true ∧ ∀ k, k < (low32 s.bL).toNat → readable s (addrOf s.aL + k) .b1 = true := by decide +kernel

/-- Two bytes that differ in one bit. -/
theorem witness_CrcDetectsAChangedByte : (0x31 : BitVec 8) ≠ 0x30 := by decide

/-- A buffer of two bytes that starts at the last address. -/
theorem witness_CrcPastTheEndOfMemory :
    let s := ready 0xFFFFFFFF 2 0 []
    Undisturbed s = true ∧ 2 ^ 32 < addrOf s.aL + (low32 s.bL).toNat ∧
    ∀ k, k < 1 → readable s (addrOf s.aL + k) .b1 = true := by decide +kernel

/-- A record of each alignment, misaligned. -/
theorem witness_MisalignedRecordsRejected :
    (recordAddr Instr.dsearchU16.form (ready 5 0x1001 0 []) = some (0x1001, 2) ∧ 0x1001 % 2 ≠ 0 ∧
      (ready 5 0x1001 0 []).grant ≠ some 0) ∧
    recordAddr Instr.deb.form (ready 0x4702 1 1 []) = some (0x4702, 4) ∧ 0x4702 % 4 ≠ 0 := by decide +kernel

/-- A first read that the platform fails, a first write, and a first read with no record to align. -/
theorem witness_FirstAccessBusError :
    (firstAccess Instr.dsearchU16.form (ready 5 0x1000 0 []) = some (0x1000, .b2, false) ∧
      recordAddr Instr.dsearchU16.form (ready 5 0x1000 0 []) = some (0x1000, 2) ∧ 0x1000 % 2 = 0 ∧
      Undisturbed (ready 5 0x1000 0 []) = true ∧
      hitsRegion [{ lo := 0x1001, hi := 0x1002, kind := .readFails }] 0x1000 .b2 RegionKind.isDevice = false ∧
      hitsRegion [{ lo := 0x1001, hi := 0x1002, kind := .readFails }] 0x1000 .b2 RegionKind.failsRead = true) ∧
    (firstAccess Instr.tstart.form (ready 0x5000 5 0 []) = some (0x5000, .b4, true) ∧
      hitsRegion [{ lo := 0x5003, hi := 0x5004, kind := .absent }] 0x5000 .b4 RegionKind.failsWrite = true) ∧
    firstAccess Instr.crc8.form (ready 7 1 0 []) = some (7, .b1, false) ∧
    recordAddr Instr.crc8.form (ready 7 1 0 []) = none := by decide +kernel

/-- V-S10e: three knots stored at the last halfword of memory. -/
theorem witness_ElementPastTheEndOfMemory :
    let s := ready 5 0xFFFFFFFE 0 (halfwords 0xFFFFFFFE [3])
    Instr.dsearchU16.form = .dsearch .u16 ∧ Instr.curveU16.form = .curve .u16 ∧ Undisturbed s = true ∧
    addrOf s.bL % 2 = 0 ∧ 2 ≤ countAt s.mem (addrOf s.bL) ∧ 0 < countAt s.mem (addrOf s.bL) ∧
    (∀ k, k < 1 → readable s (addrOf s.bL + 2 * k) .b2 = true) ∧ 2 ^ 32 < addrOf s.bL + 2 * (0 + 1) + 2 := by
  decide +kernel

/-- V-E15: the platform fails writes from 0xA000 on. -/
theorem witness_WriteErrorKeepsEarlierWrites :
    let s : State := { ready 0x9FF8 5 0x00020002 (halfwords 0x9FF8 [30, 0, 1, 2, 10, 20]) with
      platform := [{ lo := 0xA000, hi := 0x100000000, kind := .writeFails }] }
    Instr.savgU16.form = .savg .u16 ∧ Undisturbed s = true ∧ addrOf s.aL = 0x9FF8 ∧ countAt s.mem 0x9FFC = 1 ∧
    countAt s.mem 0x9FFE = 2 ∧ readable s 0x9FF8 .b4 = true ∧ readable s 0x9FFC .b2 = true ∧
    readable s 0x9FFE .b2 = true ∧ readable s 0xA002 .b2 = true ∧ writable s 0x9FF8 .b4 = true ∧
    hitsRegion s.platform 0xA002 .b2 RegionKind.failsWrite = true := by decide +kernel

/-- A search that ends normally, from an undisturbed state. -/
theorem witness_OnlyRecordCommandsWriteMemory :
    writesMemory Instr.dsearchU16.form = false ∧
    (nextOf (exec .dsearchU16 (ready 5 0x1000 0 (halfwords 0x1000 [3, 0, 10, 20])))).isSome = true := by decide +kernel

/-- The same search ends with ERR NONE. -/
theorem witness_ReadOnlyCommandsAreIdempotent :
    let s := ready 5 0x1000 0 (halfwords 0x1000 [3, 0, 10, 20])
    writesMemory Instr.dsearchU16.form = false ∧ Undisturbed s = true ∧ s.err = .none ∧
    (nextOf (exec .dsearchU16 s)).map (·.err) = some .none := by decide +kernel

/-- A write to a byte the running command has read, one just past it, and one to an idle unit's memory. -/
theorem witness_HostWriteRace :
    let s := fun a : BitVec 32 => ({ running 0x40 0x6000 9 0 [] [.memWrite a .b1 5] with
      progress := [{ addr := 0x6000, size := .b1, isWrite := false, value := 0, old := 0 }] } : State)
    ((s 0x6000).inputs = .memWrite 0x6000 .b1 5 :: [] ∧ (s 0x6001).inputs = .memWrite 0x6001 .b1 5 :: [] ∧
      (s 0x6000).busy = true) ∧
    ((0x6000 < 0x6000 + Size.bytes .b1 ∧ 0x6000 < 0x6000 + Size.bytes .b1) ∧
      ¬ (0x6001 < 0x6000 + Size.bytes .b1 ∧ 0x6000 < 0x6001 + Size.bytes .b1)) ∧
    (idle [.memWrite 0xFFFFFFFF .b1 5]).busy = false ∧ 0xFFFFFFFF + Size.bytes .b1 ≤ 2 ^ 32 :=
  ⟨⟨rfl, rfl, rfl⟩, ⟨by decide, by decide⟩, rfl, by decide⟩

/-- A read of the unit that meets no host write and one that meets it in one byte; a write of the unit that meets no host
access and one that meets a host read in one byte; and DEB between its two writes, its progress four reads and the write of
ACCEPTED, with a host read of ACCEPTED's last byte (a race) and of ACC's first (none). -/
theorem witness_RacingReadSeesOldOrNew :
    (∃ v t, portRead (ready 0 0 0 (words 0x5000 [7])) 0x5000 .b4 = .ok v t ∧ v = 7) ∧
    (∃ v t, portRead { ready 0 0 0 (words 0x5000 [7]) with
      hostTouch := [{ addr := 0x5003, size := .b1, isWrite := true, value := 9, old := 0, done := 0 }] } 0x5000 .b4 = .ok v t ∧
      t.raceFault = true) ∧
    (∀ b ∈ [0x5003, 0x5004], ∃ w t, portWrite { ready 0 0 0 [] with
      hostTouch := [{ addr := b, size := .b1, isWrite := false, value := 0, old := 0, done := 0 }] } 0x5000 .b4 7 = .ok w t ∧
      t.raceFault = (b == 0x5003)) ∧
    (let s := fun a : BitVec 32 => { after (unitTurn (some 5) (running 0x21 0x6000 1 5 [] [])) with
        inputs := [.memRead a .b1] };
      ((s 0x6003).inputs = .memRead 0x6003 .b1 :: [] ∧ 0x6003 + Size.bytes .b1 ≤ 2 ^ 32) ∧
      (s 0x6003).busy = true ∧ (s 0x6003).progress.map (·.isWrite) = [false, false, false, false, true] ∧
      (unitWrites (s 0x6003) 0x6003 .b1).length = 1 ∧ unitWrites (s 0x6004) 0x6004 .b1 = []) := by
  refine ⟨⟨_, _, rfl, by decide +kernel⟩, ⟨_, _, rfl, by decide +kernel⟩, ?_, ?_⟩
  · intro b hb
    simp only [List.mem_cons, List.not_mem_nil, or_false] at hb
    rcases hb with rfl | rfl <;> exact ⟨_, _, rfl, by decide +kernel⟩
  · decide +kernel

/-- The unit writes a word, the host then writes its lowest byte, and the host reads the word: each of the two writes is seen
or not, by the four choices (20_memory R71, 70 R322). -/
theorem test_racing_host_read_outcomes :
    let s := after (step { after (unitTurn (some 1) (running 0x30 0x6000 0x11223344 0 [(0x6000, 0xAA), (0x6001, 0xBB)] [])) with
      inputs := [.memWrite 0x6000 .b1 0x55] });
    let ws := writesOver s 0x6000 .b4;
    ws.map (·.byUnit) = [true, false] ∧
      (List.range 4).map (fun c => loadMem (seenAgain (freeForHost ws) c (takenBack s.mem ws) ws) 0x6000 .b4) =
        [0xBBAA, 0x11223344, 0xBB55, 0x11223355] := by decide +kernel

/-- A good busy state, and a step from it. -/
theorem witness_StepKeepsInvariant :
    Inv (running 0x30 0x5000 7 0 [] []) = true ∧ (nextOf (step (running 0x30 0x5000 7 0 [] []))).isSome = true := by
  decide +kernel

end Sys2Proof.Tests
end

section
/-! PROOFS. The encoding of values in 64-bit registers (00_scope R11, R12, 30_encoding R86): `val` by signedness, `enc64`
modulo 2^64, what each of the two does to the other. -/

namespace Sys2Proof

theorem Ty.width_pos (t : Ty) : 0 < t.width := by cases t <;> decide

theorem Ty.width_le_64 (t : Ty) : t.width ≤ 64 := by cases t <;> decide

theorem Ty.min_of_signed {t : Ty} (h : t.signed = true) : t.min = -(2 ^ (t.width - 1) : Int) := by simp [Ty.min, h]

theorem Ty.min_of_unsigned {t : Ty} (h : t.signed = false) : t.min = 0 := by simp [Ty.min, h]

theorem Ty.max_of_signed {t : Ty} (h : t.signed = true) : t.max = (2 ^ (t.width - 1) : Int) - 1 := by simp [Ty.max, h]

theorem Ty.max_of_unsigned {t : Ty} (h : t.signed = false) : t.max = (2 ^ t.width : Int) - 1 := by simp [Ty.max, h]

end Sys2Proof

namespace Sys2Proof.Machine

theorem val_of_signed {t : Ty} (h : t.signed = true) (r : BitVec 64) : val r t = (r.setWidth t.width).toInt := by
  simp [val, h]

theorem val_of_unsigned {t : Ty} (h : t.signed = false) (r : BitVec 64) :
    val r t = ((r.setWidth t.width).toNat : Int) := by
  simp [val, h]

/-- R12's `val` in arithmetic: the low W(T) bits, less 2^W(T) for a negative value of a signed type. -/
theorem val_eq_toNat_mod_sub (r : BitVec 64) (t : Ty) :
    val r t = (r.toNat % 2 ^ t.width : Nat) -
      (if t.signed = true ∧ r.getLsbD (t.width - 1) = true then 2 ^ t.width else 0) := by
  cases h : t.signed with
  | false => simp [val_of_unsigned h]
  | true =>
    rw [val_of_signed h, BitVec.toInt_eq_msb_cond, BitVec.msb_setWidth, BitVec.toNat_setWidth]
    cases hb : r.getLsbD (t.width - 1) <;> simp [t.width_pos]

theorem toNat_enc64 (v : Int) : ((enc64 v).toNat : Int) = v % 2 ^ 64 := by
  rw [enc64, BitVec.toNat_ofInt, Int.toNat_of_nonneg (Int.emod_nonneg v (by decide))]
  norm_num

/-- The low bits of `enc64(v)` depend on `v` alone: cutting to `w` bits commutes with encoding. -/
theorem setWidth_enc64 {w : Nat} (hw : w ≤ 64) (v : Int) : (enc64 v).setWidth w = BitVec.ofInt w v := by
  have hdvd : ((2 ^ w : Nat) : Int) ∣ 2 ^ 64 := by exact_mod_cast pow_dvd_pow 2 hw
  apply BitVec.eq_of_toInt_eq
  rw [BitVec.toInt_setWidth, BitVec.toInt_ofInt, toNat_enc64, ← Int.emod_bmod, Int.emod_emod_of_dvd v hdvd,
    Int.emod_bmod]

/-- A value in the range of a type is read back from its encoding. -/
theorem val_enc64 {t : Ty} {v : Int} (hmin : t.min ≤ v) (hmax : v ≤ t.max) : val (enc64 v) t = v := by
  cases h : t.signed with
  | false =>
    rw [Ty.min_of_unsigned h] at hmin
    rw [Ty.max_of_unsigned h] at hmax
    rw [val_of_unsigned h, setWidth_enc64 t.width_le_64, BitVec.toNat_ofInt,
      Int.emod_eq_of_lt hmin (by push_cast; omega), Int.toNat_of_nonneg hmin]
  | true =>
    rw [Ty.min_of_signed h] at hmin
    rw [Ty.max_of_signed h] at hmax
    rw [val_of_signed h, setWidth_enc64 t.width_le_64, BitVec.toInt_ofInt_eq_self t.width_pos hmin (by omega)]

/-- Encoding what a type reads from a register extends the register's field: by its sign for a signed type, by zeros for
an unsigned one. -/
theorem enc64_val (r : BitVec 64) (t : Ty) :
    enc64 (val r t) =
      if t.signed then (r.setWidth t.width).signExtend 64 else (r.setWidth t.width).setWidth 64 := by
  cases h : t.signed with
  | false => rw [enc64, val_of_unsigned h, BitVec.ofInt_natCast, BitVec.ofNat_toNat]; rfl
  | true => simp [enc64, val_of_signed h, BitVec.signExtend]

/-- The bits from W(T) up, after reading a register and encoding the value again. -/
theorem getLsbD_enc64_val (r : BitVec 64) (t : Ty) {k : Nat} (hk : t.width ≤ k) (hk64 : k < 64) :
    (enc64 (val r t)).getLsbD k = (t.signed && r.getLsbD (t.width - 1)) := by
  have hk' : ¬ k < t.width := by omega
  cases h : t.signed with
  | false => simp [enc64_val, h, BitVec.getLsbD_setWidth, hk']
  | true => simp only [enc64_val, h, if_true, BitVec.getLsbD_signExtend, BitVec.msb_setWidth, hk', hk64, t.width_pos,
      if_false, decide_true, Bool.true_and]

end Sys2Proof.Machine

namespace Sys2Proof.Proofs

open Machine

/-- Settles O20: `val` by arithmetic, and the bounds of the six types, each computed. -/
theorem operandExtraction : Obligations.OperandExtraction := by
  unfold Obligations.OperandExtraction
  exact ⟨val_eq_toNat_mod_sub, by decide⟩

/-- Settles O21: the extension bits are those of the value read back and encoded again, which is the value itself. -/
theorem resultsReadBack : Obligations.ResultsReadBack := by
  unfold Obligations.ResultsReadBack
  refine ⟨toNat_enc64, fun t v hmin hmax => ?_⟩
  have hval : val (enc64 v) t = v := val_enc64 hmin hmax
  refine ⟨hval, fun k hk hk64 => ?_⟩
  have hbits := getLsbD_enc64_val (enc64 v) t hk hk64
  rwa [hval] at hbits

end Sys2Proof.Proofs
end

section
/-! PROOFS. A command's run, said by cases (10_state R28, R31, 70 R330), and what follows from it for every command: which
fields no command changes, which registers none reads, and which commands leave memory alone. -/

namespace Sys2Proof.Machine

/-! ## What one piece of a run can do -/

/-- The normal end: the grant is used up, or the result is placed. -/
theorem run_pure_next {r : Int} {g : Option Nat} {d : List Access} {s t : State}
    (h : (Prog.pure r).run g d s = .next t) : t = s ∨ t = s.finish r := by
  simp only [Prog.run] at h
  split at h <;> cases h
  · exact .inl rfl
  · exact .inr rfl

/-- The error end: the grant is used up, or the error is raised. -/
theorem run_fail_next {e : ErrCode} {g : Option Nat} {d : List Access} {s t : State}
    (h : (Prog.fail e : Prog Int).run g d s = .next t) : t = s ∨ t = s.raise e := by
  simp only [Prog.run] at h
  split at h <;> cases h
  · exact .inl rfl
  · exact .inr rfl

/-- A read: done before and passed over, or the grant is used up, or the port answers with an error, or with a value and
the run goes on. -/
theorem run_read_next {a : Nat} {n : Size} {k : BitVec 32 → Prog Int} {g : Option Nat} {d : List Access} {s t : State}
    (h : (Prog.read a n k).run g d s = .next t) :
    (∃ v rest, (k v).run g rest s = .next t) ∨ t = s ∨ t = s.raise .busErr ∨
      ∃ g' v s', portRead s a n = .ok v s' ∧ (k v).run g' []
        (s'.note { addr := a, size := n, isWrite := false, value := v, old := v }) = .next t := by
  cases d with
  | cons x rest => exact .inl ⟨_, _, h⟩
  | nil =>
    simp only [Prog.run] at h
    split at h
    · cases h; exact .inr (.inl rfl)
    · split at h
      · next hport => exact .inr (.inr (.inr ⟨_, _, _, hport, h⟩))
      · cases h; exact .inr (.inr (.inl rfl))
      · cases h

/-- A write, by the same cases. -/
theorem run_write_next {a : Nat} {n : Size} {v : BitVec 32} {k : Prog Int} {g : Option Nat} {d : List Access}
    {s t : State} (h : (Prog.write a n v k).run g d s = .next t) :
    (∃ rest, k.run g rest s = .next t) ∨ t = s ∨ t = s.raise .busErr ∨
      ∃ g' w s', portWrite s a n v = .ok w s' ∧ k.run g' []
        (s'.note { addr := a, size := n, isWrite := true, value := v, old := loadMem s.mem a n }) = .next t := by
  cases d with
  | cons x rest => exact .inl ⟨_, h⟩
  | nil =>
    simp only [Prog.run] at h
    split at h
    · cases h; exact .inr (.inl rfl)
    · split at h
      · next hport => exact .inr (.inr (.inr ⟨_, _, _, hport, h⟩))
      · cases h; exact .inr (.inr (.inl rfl))
      · cases h

/-- What the accesses of a run keep holds where the grant is used up, and held just before the command ended. Unlike
`run_keeps`, the property need not hold after the end. -/
theorem run_keeps_until_end {P : State → Prop}
    (hread : ∀ s t a n v, P s → portRead s a n = .ok v t →
      P (t.note { addr := a, size := n, isWrite := false, value := v, old := v }))
    (hwrite : ∀ s t a n v w, P s → portWrite s a n v = .ok w t →
      P (t.note { addr := a, size := n, isWrite := true, value := v, old := loadMem s.mem a n }))
    (p : Prog Int) : ∀ (g : Option Nat) (d : List Access) (s t : State), P s → p.run g d s = .next t →
      P t ∨ ∃ u, P u ∧ ((∃ r, t = u.finish r) ∨ ∃ e, t = u.raise e) := by
  induction p with
  | pure r =>
    intro g d s t hs h
    obtain rfl | rfl := run_pure_next h
    · exact .inl hs
    · exact .inr ⟨s, hs, .inl ⟨r, rfl⟩⟩
  | fail e =>
    intro g d s t hs h
    obtain rfl | rfl := run_fail_next h
    · exact .inl hs
    · exact .inr ⟨s, hs, .inr ⟨e, rfl⟩⟩
  | read a n k ih =>
    intro g d s t hs h
    obtain ⟨v, rest, hrun⟩ | rfl | rfl | ⟨g', v, s', hport, hrun⟩ := run_read_next h
    · exact ih _ _ _ _ _ hs hrun
    · exact .inl hs
    · exact .inr ⟨s, hs, .inr ⟨_, rfl⟩⟩
    · exact ih _ _ _ _ _ (hread _ _ _ _ _ hs hport) hrun
  | write a n v k ih =>
    intro g d s t hs h
    obtain ⟨rest, hrun⟩ | rfl | rfl | ⟨g', w, s', hport, hrun⟩ := run_write_next h
    · exact ih _ _ _ _ hs hrun
    · exact .inl hs
    · exact .inr ⟨s, hs, .inr ⟨_, rfl⟩⟩
    · exact ih _ _ _ _ (hwrite _ _ _ _ _ _ hs hport) hrun

/-! ## What no command changes -/

/-- `t` has the registers, latches, parameters and surroundings of `s`, and RACE recorded where `s` has it. -/
structure SameSurroundings (s t : State) : Prop where
  cmd : t.cmd = s.cmd
  opa : t.opa = s.opa
  opb : t.opb = s.opb
  opc : t.opc = s.opc
  cmdL : t.cmdL = s.cmdL
  aL : t.aL = s.aL
  bL : t.bL = s.bL
  cL : t.cL = s.cL
  params : t.params = s.params
  platform : t.platform = s.platform
  inputs : t.inputs = s.inputs
  grant : t.grant = s.grant
  hostReads : t.hostReads = s.hostReads
  protocolFault : t.protocolFault = s.protocolFault
  raceFault : s.raceFault = true → t.raceFault = true

namespace SameSurroundings

variable {s t : State}

theorem refl (s : State) : SameSurroundings s s := by constructor <;> simp

theorem trans {u : State} (h : SameSurroundings s t) (h' : SameSurroundings t u) : SameSurroundings s u where
  cmd := h'.cmd.trans h.cmd
  opa := h'.opa.trans h.opa
  opb := h'.opb.trans h.opb
  opc := h'.opc.trans h.opc
  cmdL := h'.cmdL.trans h.cmdL
  aL := h'.aL.trans h.aL
  bL := h'.bL.trans h.bL
  cL := h'.cL.trans h.cL
  params := h'.params.trans h.params
  platform := h'.platform.trans h.platform
  inputs := h'.inputs.trans h.inputs
  grant := h'.grant.trans h.grant
  hostReads := h'.hostReads.trans h.hostReads
  protocolFault := h'.protocolFault.trans h.protocolFault
  raceFault := fun hr => h'.raceFault (h.raceFault hr)

theorem finish (s : State) (r : Int) : SameSurroundings s (s.finish r) := by constructor <;> simp

theorem raise (s : State) (e : ErrCode) : SameSurroundings s (s.raise e) := by constructor <;> simp

theorem note (s : State) (x : Access) : SameSurroundings s (s.note x) := by constructor <;> simp

theorem portRead {a : Nat} {n : Size} {v : BitVec 32} (h : portRead s a n = .ok v t) : SameSurroundings s t := by
  obtain ⟨-, ⟨-, -, rfl⟩ | ⟨-, rfl⟩⟩ := portRead_ok h
  · exact refl t
  · constructor <;> simp

theorem portWrite {a : Nat} {n : Size} {v w : BitVec 32} (h : portWrite s a n v = .ok w t) : SameSurroundings s t := by
  obtain ⟨-, rfl | rfl⟩ := portWrite_ok h <;> constructor <;> simp

end SameSurroundings

/-- Every run leaves the surroundings alone. -/
theorem run_sameSurroundings (p : Prog Int) {g : Option Nat} {d : List Access} {s t : State}
    (h : p.run g d s = .next t) : SameSurroundings s t :=
  run_keeps (P := SameSurroundings s) (fun u r hu => hu.trans (.finish u r)) (fun u e hu => hu.trans (.raise u e))
    (fun _ u _ _ _ hu hport => (hu.trans (.portRead hport)).trans (.note u _))
    (fun _ u _ _ _ _ hu hport => (hu.trans (.portWrite hport)).trans (.note u _)) p g d s t (.refl s) h

theorem exec_sameSurroundings {i : Instr} {s t : State} (h : exec i s = .next t) : SameSurroundings s t := by
  rw [exec_eq_runCommand] at h
  exact run_sameSurroundings _ h

/-! ## What no command reads -/

/-- The state with other values in OPA, OPB, OPC and CMD. -/
def State.withHostRegs (s : State) (a b c : BitVec 64) (w : BitVec 32) : State :=
  { s with opa := a, opb := b, opc := c, cmd := w }

/-- A port answer with its state changed. -/
def PortAnswer.mapState (f : State → State) : PortAnswer → PortAnswer
  | .ok v s => .ok v (f s)
  | .busError => .busError
  | .refused r => .refused r

/-- An outcome with its next state changed. -/
def mapNext (f : State → State) : Host.Outcome State Fault Refusal → Host.Outcome State Fault Refusal
  | .next s => .next (f s)
  | .fault e => .fault e
  | .refused r => .refused r

section
variable (s : State) (a b c : BitVec 64) (w : BitVec 32)

theorem portRead_withHostRegs (x : Nat) (n : Size) :
    portRead (s.withHostRegs a b c w) x n = (portRead s x n).mapState (·.withHostRegs a b c w) := by
  simp only [portRead, apply_ite (PortAnswer.mapState _)]
  rfl

theorem portWrite_withHostRegs (x : Nat) (n : Size) (v : BitVec 32) :
    portWrite (s.withHostRegs a b c w) x n v = (portWrite s x n v).mapState (·.withHostRegs a b c w) := by
  simp only [portWrite, apply_ite (PortAnswer.mapState _)]
  rfl

/-- A command's program is made of the latched operands and the parameters. -/
theorem formProg_withHostRegs (f : Form) : formProg f (s.withHostRegs a b c w) = formProg f s := by cases f <;> rfl

end

/-- A run goes the same way with other values in the host's registers, which it carries along. -/
theorem run_withHostRegs (a b c : BitVec 64) (w : BitVec 32) (p : Prog Int) :
    ∀ (g : Option Nat) (d : List Access) (s : State),
      p.run g d (s.withHostRegs a b c w) = mapNext (·.withHostRegs a b c w) (p.run g d s) := by
  induction p with
  | pure r => intro g d s; simp only [Prog.run]; cases spend g <;> rfl
  | fail e => intro g d s; simp only [Prog.run]; cases spend g <;> rfl
  | read x n k ih =>
    intro g d s
    cases d with
    | cons y rest => exact ih _ _ _ _
    | nil =>
      simp only [Prog.run, portRead_withHostRegs]
      cases spend g with
      | none => rfl
      | some g' =>
        cases portRead s x n with
        | ok v t => exact ih _ _ _ (t.note _)
        | busError => rfl
        | refused r => rfl
  | write x n v k ih =>
    intro g d s
    cases d with
    | cons y rest => exact ih _ _ _
    | nil =>
      simp only [Prog.run, portWrite_withHostRegs]
      cases spend g with
      | none => rfl
      | some g' =>
        cases portWrite s x n v with
        | ok v' t => exact ih _ _ (t.note _)
        | busError => rfl
        | refused r => rfl

theorem exec_withHostRegs (i : Instr) (s : State) (a b c : BitVec 64) (w : BitVec 32) :
    exec i (s.withHostRegs a b c w) = mapNext (·.withHostRegs a b c w) (exec i s) := by
  rw [exec_eq_runCommand, exec_eq_runCommand, formProg_withHostRegs]
  exact run_withHostRegs a b c w _ _ _ s

/-! ## What only some commands write -/

/-- The program makes no write on any path. -/
def Prog.WriteFree {α : Type} : Prog α → Prop
  | .pure _ => True
  | .fail _ => True
  | .read _ _ k => ∀ v, (k v).WriteFree
  | .write .. => False

section
variable {α β : Type}

@[simp] theorem writeFree_pure (r : α) : (Prog.pure r).WriteFree := trivial

@[simp] theorem writeFree_fail (e : ErrCode) : (Prog.fail e : Prog α).WriteFree := trivial

@[simp] theorem writeFree_read (a : Nat) (n : Size) (k : BitVec 32 → Prog α) :
    (Prog.read a n k).WriteFree ↔ ∀ v, (k v).WriteFree := Iff.rfl

theorem Prog.WriteFree.bind {p : Prog α} {f : α → Prog β} (hp : p.WriteFree) (hf : ∀ r, (f r).WriteFree) :
    (p.bind f).WriteFree := by
  induction p with
  | pure r => exact hf r
  | fail e => trivial
  | read a n k ih => exact fun v => ih v (hp v)
  | write a n v k ih => exact hp.elim

@[simp] theorem writeFree_memRead (a : Nat) (n : Size) : (memRead a n).WriteFree := fun _ => trivial

@[simp] theorem writeFree_raiseIf (c : Bool) (e : ErrCode) : (raiseIf c e).WriteFree := by cases c <;> trivial

@[simp] theorem writeFree_checkAlign (a k : Nat) : (checkAlign a k).WriteFree := writeFree_raiseIf _ _

@[simp] theorem writeFree_checkDist (d : List Int) : (checkDist d).WriteFree := writeFree_raiseIf _ _

@[simp] theorem writeFree_elem (a k : Nat) (et : Elem) : (elem a k et).WriteFree := fun _ => trivial

@[simp] theorem writeFree_readElems (a : Nat) (et : Elem) (n : Nat) : ∀ k, (readElems a et n k).WriteFree := by
  induction n with
  | zero => exact fun _ => trivial
  | succ n ih => exact fun k => (writeFree_elem a k et).bind fun _ => (ih (k + 1)).bind fun _ => trivial

@[simp] theorem writeFree_crcLoop (n : Nat) : ∀ (a : Nat) (crc : BitVec 8), (crcLoop n a crc).WriteFree := by
  induction n with
  | zero => exact fun _ _ => trivial
  | succ n ih => exact fun a crc => (writeFree_memRead a .b1).bind fun b => ih (a + 1) _

@[simp] theorem writeFree_curveValue (p : Config.Params) (et : Elem) (x : Int) (xs : List Int) (yb : Nat) :
    (curveValue p et x xs yb).WriteFree := by
  unfold curveValue
  split_ifs
  · exact writeFree_elem _ _ _
  · exact writeFree_elem _ _ _
  · exact (writeFree_elem _ _ _).bind fun _ => (writeFree_elem _ _ _).bind fun _ => trivial

@[simp] theorem writeFree_rowBlend (p : Config.Params) (et : Elem) (g ny iy ry i : Nat) :
    (rowBlend p et g ny iy ry i).WriteFree := by
  refine (writeFree_elem _ _ _).bind fun z0 => ?_
  split_ifs
  · trivial
  · exact (writeFree_elem _ _ _).bind fun _ => trivial

@[simp] theorem writeFree_blend (p : Config.Params) (et : Elem) (m nx ny ix rx iy ry : Nat) :
    (blend p et m nx ny ix rx iy ry).WriteFree := by
  refine (writeFree_rowBlend p et _ ny iy ry ix).bind fun z => ?_
  split_ifs
  · trivial
  · exact (writeFree_rowBlend p et _ ny iy ry (ix + 1)).bind fun _ => trivial

end

/-- The programs of all commands but SAVG, DEB, TSTART and TSTOP make no write. -/
theorem formProg_writeFree {f : Form} (hf : writesMemory f = false) (s : State) : (formProg f s).WriteFree := by
  cases f with
  | div | mul | mulw | muldiv | lim => trivial
  | savg | deb | tstart | tstop => cases hf
  | dsearch et =>
    exact (writeFree_checkAlign _ _).bind fun _ => (writeFree_memRead _ _).bind fun _ => (writeFree_raiseIf _ _).bind fun _ =>
      (writeFree_readElems _ _ _ _).bind fun _ => (writeFree_checkDist _).bind fun _ => trivial
  | curve et =>
    exact (writeFree_checkAlign _ _).bind fun _ => (writeFree_memRead _ _).bind fun _ => (writeFree_raiseIf _ _).bind fun _ =>
      (writeFree_readElems _ _ _ _).bind fun _ => (writeFree_checkDist _).bind fun _ => writeFree_curveValue _ _ _ _ _
  | map et =>
    exact (writeFree_checkAlign _ _).bind fun _ => (writeFree_memRead _ _).bind fun _ => (writeFree_memRead _ _).bind fun _ =>
      (writeFree_raiseIf _ _).bind fun _ => (writeFree_readElems _ _ _ _).bind fun _ =>
      (writeFree_readElems _ _ _ _).bind fun _ => (writeFree_checkDist _).bind fun _ =>
      (writeFree_checkDist _).bind fun _ => writeFree_blend _ _ _ _ _ _ _ _ _
  | mapg et =>
    exact (writeFree_checkAlign _ _).bind fun _ => (writeFree_memRead _ _).bind fun _ => (writeFree_memRead _ _).bind fun _ =>
      (writeFree_raiseIf _ _).bind fun _ => (writeFree_raiseIf _ _).bind fun _ => writeFree_blend _ _ _ _ _ _ _ _ _
  | telapsed | tisstopped =>
    exact (writeFree_checkAlign _ _).bind fun _ => (writeFree_memRead _ _).bind fun _ => trivial
  | crc8 => exact (writeFree_crcLoop _ _ _).bind fun _ => trivial

theorem portRead_mem {s t : State} {a : Nat} {n : Size} {v : BitVec 32} (h : portRead s a n = .ok v t) :
    t.mem = s.mem := by
  obtain ⟨-, ⟨-, -, rfl⟩ | ⟨-, rfl⟩⟩ := portRead_ok h <;> rfl

/-- A program that makes no write leaves memory alone, whatever its grant and its racing reads. -/
theorem run_mem_of_writeFree (p : Prog Int) (hp : p.WriteFree) :
    ∀ (g : Option Nat) (d : List Access) (s t : State), p.run g d s = .next t → t.mem = s.mem := by
  induction p with
  | pure r => intro g d s t h; obtain rfl | rfl := run_pure_next h <;> rfl
  | fail e => intro g d s t h; obtain rfl | rfl := run_fail_next h <;> rfl
  | read a n k ih =>
    intro g d s t h
    obtain ⟨v, rest, hrun⟩ | rfl | rfl | ⟨g', v, s', hport, hrun⟩ := run_read_next h
    · exact ih v (hp v) _ _ _ _ hrun
    · rfl
    · rfl
    · rw [ih v (hp v) _ _ _ _ hrun, State.note_mem, portRead_mem hport]
  | write a n v k ih => exact hp.elim

theorem exec_mem_of_writeFree {i : Instr} {s t : State} (hi : writesMemory i.form = false) (h : exec i s = .next t) :
    t.mem = s.mem := by
  rw [exec_eq_runCommand] at h
  exact run_mem_of_writeFree _ (formProg_writeFree hi s) _ _ _ _ h

end Sys2Proof.Machine

namespace Sys2Proof.Proofs

open Machine

/-- Settles O15: exec commutes with replacing the four registers. -/
theorem runningCommandReadsOnlyTheLatches : Obligations.RunningCommandReadsOnlyTheLatches := by
  unfold Obligations.RunningCommandReadsOnlyTheLatches
  intro i s a b c w
  have h := exec_withHostRegs i s a b c w
  cases hi : exec i s <;> rwa [hi] at h

/-- Settles O16: each access and each end leaves the surroundings alone, so every run does. -/
theorem noCommandChangesItsSurroundings : Obligations.NoCommandChangesItsSurroundings := by
  unfold Obligations.NoCommandChangesItsSurroundings
  intro i s t h
  have hsame := exec_sameSurroundings h
  exact ⟨hsame.cmd, hsame.opa, hsame.opb, hsame.opc, hsame.cmdL, hsame.aL, hsame.bL, hsame.cL, hsame.params,
    hsame.platform, hsame.inputs, hsame.grant, hsame.hostReads, hsame.protocolFault, hsame.raceFault⟩

/-- Settles O55: the other commands' programs make no write on any path. -/
theorem onlyRecordCommandsWriteMemory : Obligations.OnlyRecordCommandsWriteMemory := by
  unfold Obligations.OnlyRecordCommandsWriteMemory
  exact fun _ _ _ hi h => exec_mem_of_writeFree hi h

end Sys2Proof.Proofs
end

section
/-! PROOFS. The machine's invariant (10_state R28, R30, R34, 70 R324): the reset state has it, and every action of the
outside and every turn of the unit keeps it. -/

namespace Sys2Proof.Machine

/-! ## The invariant, taken apart -/

/-- `Inv` with its clauses named. -/
structure Good (s : State) : Prop where
  wf : s.mem.wf = true
  inSpace : s.mem.inSpace = true
  copy : s.cmd = s.cmdL
  running : s.busy = true → legal s.cmdL = true ∧ s.err = .none
  idle : s.busy = false → s.progress = [] ∧ s.hostTouch = []

theorem inv_iff_good (s : State) : Inv s = true ↔ Good s := by
  have hiff : Inv s = true ↔ s.mem.wf = true ∧ s.mem.inSpace = true ∧ s.cmd = s.cmdL ∧
      (s.busy = true → legal s.cmdL = true ∧ s.err = .none) ∧
      (s.busy = false → s.progress = [] ∧ s.hostTouch = []) := by
    cases hb : s.busy <;> simp [Inv, hb, and_assoc]
  rw [hiff]
  exact ⟨fun ⟨hwf, hspace, hcopy, hrun, hidle⟩ => ⟨hwf, hspace, hcopy, hrun, hidle⟩,
    fun h => ⟨h.wf, h.inSpace, h.copy, h.running, h.idle⟩⟩

/-- An idle state with nothing in progress is good where its memory is and CMD is copied. -/
theorem Good.of_idle {s : State} (hwf : s.mem.wf = true) (hspace : s.mem.inSpace = true) (hcopy : s.cmd = s.cmdL)
    (hb : s.busy = false) (hp : s.progress = []) (ht : s.hostTouch = []) : Good s :=
  ⟨hwf, hspace, hcopy, fun h => absurd h (by simp [hb]), fun _ => ⟨hp, ht⟩⟩

/-- A busy state is good where its memory is and it agrees in the command's fields with a good busy state. -/
theorem Good.of_busy {s t : State} (h : Good s) (hb : s.busy = true) (hwf : t.mem.wf = true)
    (hspace : t.mem.inSpace = true) (hcmd : t.cmd = s.cmd) (hcmdL : t.cmdL = s.cmdL) (hbusy : t.busy = s.busy)
    (herr : t.err = s.err) : Good t where
  wf := hwf
  inSpace := hspace
  copy := by rw [hcmd, hcmdL, h.copy]
  running := fun _ => by rw [hcmdL, herr]; exact h.running hb
  idle := fun hidle => absurd hidle (by simp [hbusy, hb])

/-- A good state with other memory in canonical form is good. -/
theorem Good.setMem {s : State} (h : Good s) {m : Memory} (hwf : m.wf = true) (hspace : m.inSpace = true) :
    Good (s.setMem m) :=
  ⟨hwf, hspace, h.copy, h.running, h.idle⟩

theorem good_reset : Good State.reset :=
  have ⟨hwf, hspace⟩ := powerOnMemory_good 0
  .of_idle hwf hspace rfl rfl rfl rfl

/-! ## A command's run -/

theorem Good.finish {s : State} (h : Good s) (r : Int) : Good (s.finish r) :=
  .of_idle h.wf h.inSpace h.copy rfl rfl rfl

theorem Good.raise {s : State} (h : Good s) (e : ErrCode) : Good (s.raise e) :=
  .of_idle h.wf h.inSpace h.copy rfl rfl rfl

/-- A read of the running command keeps a busy state good. -/
theorem Good.portRead_note {s t : State} (h : Good s) (hb : s.busy = true) {a : Nat} {n : Size} {v : BitVec 32}
    (hport : portRead s a n = .ok v t) (x : Access) : Good (t.note x) ∧ (t.note x).busy = true := by
  obtain ⟨-, ⟨-, -, rfl⟩ | ⟨-, rfl⟩⟩ := portRead_ok hport <;>
    exact ⟨h.of_busy hb h.wf h.inSpace rfl rfl rfl rfl, hb⟩

theorem inRange_of_writable {s : State} {a : Nat} {n : Size} (h : writable s a n = true) : inRange a n = true := by
  simp only [writable, Bool.and_eq_true] at h
  obtain ⟨⟨hrange, -⟩, -⟩ := h
  exact hrange

/-- A write of the running command keeps a busy state good, since it is made only inside the address space. -/
theorem Good.portWrite_note {s t : State} (h : Good s) (hb : s.busy = true) {a : Nat} {n : Size} {v w : BitVec 32}
    (hport : portWrite s a n v = .ok w t) (x : Access) : Good (t.note x) ∧ (t.note x).busy = true := by
  obtain ⟨hwritable, ht⟩ := portWrite_ok hport
  have hwf := wf_storeMem h.wf a n v
  have hspace := inSpace_storeMem h.inSpace v (inRange_of_writable hwritable)
  obtain rfl | rfl := ht <;> exact ⟨h.of_busy hb hwf hspace rfl rfl rfl rfl, hb⟩

/-- A busy good state is good after its command's turn, whether the command has ended or not. -/
theorem Good.exec {s t : State} (h : Good s) (hb : s.busy = true) {i : Instr} (hexec : exec i s = .next t) : Good t := by
  rw [exec_eq_runCommand] at hexec
  obtain ⟨ht, -⟩ | ⟨u, ⟨hu, -⟩, ⟨r, rfl⟩ | ⟨e, rfl⟩⟩ :=
    run_keeps_until_end (P := fun u => Good u ∧ u.busy = true)
      (fun _ _ _ _ _ ⟨hu, hbusy⟩ hport => hu.portRead_note hbusy hport _)
      (fun _ _ _ _ _ _ ⟨hu, hbusy⟩ hport => hu.portWrite_note hbusy hport _) _ _ _ _ _ ⟨h, hb⟩ hexec
  · exact ht
  · exact hu.finish r
  · exact hu.raise e

/-- What a unit turn does: the latched command goes on, or the unit is idle and nothing happens. -/
theorem unitTurn_next {g : Option Nat} {s t : State} (h : unitTurn g s = .next t) :
    (s.busy = true ∧ ∃ i, decodeWord s.cmdL = .ok i ∧ Machine.exec i { s with grant := g } = .next t) ∨
      (s.busy = false ∧ t = s) := by
  unfold unitTurn at h
  split at h
  · next hb =>
    split at h
    · next i hi => exact .inl ⟨hb, i, hi, h⟩
    · cases h
  · next hb => cases h; exact .inr ⟨by simpa using hb, rfl⟩

theorem Good.unitTurn {g : Option Nat} {s t : State} (h : Good s) (hturn : unitTurn g s = .next t) : Good t := by
  obtain ⟨hb, i, -, hexec⟩ | ⟨-, rfl⟩ := unitTurn_next hturn
  · have hgrant : Good { s with grant := g } := ⟨h.wf, h.inSpace, h.copy, h.running, h.idle⟩
    exact hgrant.exec hb hexec
  · exact h

/-! ## The host's accesses -/

/-- An accepted CMD write of an idle unit: a legal word starts its command with nothing in progress and ERR = NONE, an
illegal one leaves the unit idle. -/
theorem Good.accept {s : State} (h : Good s) (hb : s.busy = false) (w : BitVec 32) : Good (accept s w) where
  wf := by simpa using h.wf
  inSpace := by simpa using h.inSpace
  copy := by simp
  running := by cases hw : legal w <;> simp [hb, hw]
  idle := by cases hw : legal w <;> simp [hb, hw, h.idle hb]

/-- What a host register write does: a CMD write is lost or accepted, and any other write changes operands only. -/
theorem writeReg_cases (s : State) (off : Nat) (v : BitVec 32) :
    (s.busy = true ∧ writeReg s off v = s.recordProtocol) ∨ (s.busy = false ∧ writeReg s off v = Machine.accept s v) ∨
      ∃ a b c, writeReg s off v = { s with opa := a, opb := b, opc := c } := by
  by_cases h0 : off = 0
  · subst h0
    cases hb : s.busy
    · exact .inr (.inl ⟨rfl, by simp [writeReg, hb]⟩)
    · exact .inl ⟨rfl, by simp [writeReg, hb]⟩
  · refine .inr (.inr ?_)
    unfold writeReg
    rw [if_neg h0]
    split_ifs <;> exact ⟨_, _, _, rfl⟩

theorem Good.writeReg {s : State} (h : Good s) (off : Nat) (v : BitVec 32) : Good (writeReg s off v) := by
  obtain ⟨-, ht⟩ | ⟨hb, ht⟩ | ⟨a, b, c, ht⟩ := writeReg_cases s off v
  · rw [ht]; exact ⟨h.wf, h.inSpace, h.copy, h.running, h.idle⟩
  · rw [ht]; exact h.accept hb v
  · rw [ht]; exact ⟨h.wf, h.inSpace, h.copy, h.running, h.idle⟩

theorem Good.hostRegWrite {s t : State} (h : Good s) {addr : BitVec 32} {bytes : Nat} {v : BitVec 32}
    (hact : hostRegWrite s addr bytes v = .next t) : Good t := by
  unfold Machine.hostRegWrite at hact
  split_ifs at hact <;> cases hact
  · exact h.writeReg _ _
  · exact h

theorem Good.returnRead {s : State} (h : Good s) (addr v : BitVec 32) : Good (s.returnRead addr v) :=
  ⟨h.wf, h.inSpace, h.copy, h.running, h.idle⟩

theorem Good.drawn {s : State} (h : Good s) : Good s.drawn := ⟨h.wf, h.inSpace, h.copy, h.running, h.idle⟩

theorem Good.hostRegRead {s t : State} (h : Good s) {addr : BitVec 32} {bytes : Nat}
    (hact : hostRegRead s addr bytes = .next t) : Good t := by
  unfold Machine.hostRegRead at hact
  split_ifs at hact <;> cases hact
  · split
    · exact (h.returnRead _ _).drawn
    · exact h.returnRead _ _
  · exact h

/-- A host access is noted only while BUSY = 1, where the invariant leaves room for it. -/
theorem Good.hostTouches {s : State} (h : Good s) (a : Nat) (n : Size) (isWrite : Bool) (v : BitVec 32) :
    Good (s.hostTouches a n isWrite v) := by
  cases hb : s.busy with
  | false => rwa [State.hostTouches, if_neg (by simp [hb])]
  | true => exact h.of_busy hb (by simpa using h.wf) (by simpa using h.inSpace) (by simp) (by simp) (by simp) (by simp)

theorem Good.hostMemWrite {s t : State} (h : Good s) {a : Nat} {n : Size} {v : BitVec 32}
    (hact : hostMemWrite s a n v = .next t) : Good t := by
  unfold Machine.hostMemWrite at hact
  split at hact <;> cases hact
  next hrange => exact (h.hostTouches a n true v).setMem (wf_storeMem h.wf a n v) (inSpace_storeMem h.inSpace v hrange)

theorem Good.hostMemRead {s t : State} (h : Good s) {addr : BitVec 32} {n : Size}
    (hact : hostMemRead s addr n = .next t) : Good t := by
  have htouch := h.hostTouches addr.toNat n false 0
  unfold Machine.hostMemRead at hact
  split_ifs at hact <;> cases hact
  · exact htouch.returnRead _ _
  · exact htouch.drawn.returnRead _ _

/-! ## Reset and every step -/

/-- Clearing the registers gives a good state wherever memory is good. -/
theorem Good.clearRegs {s : State} (h : Good s) : Good s.clearRegs := .of_idle h.wf h.inSpace rfl rfl rfl rfl

theorem good_powerCycle (s : State) : Good (powerCycle s) :=
  have ⟨hwf, hspace⟩ := powerOnMemory_good s.draws
  .of_idle hwf hspace rfl rfl rfl rfl

theorem Good.resetUnit {s t : State} (h : Good s) {inFlight : Bool} (hact : resetUnit inFlight s = .next t) : Good t := by
  unfold Machine.resetUnit at hact
  split at hact
  · split at hact <;> cases hact
    next hturn => exact (h.unitTurn hturn).clearRegs
  · cases hact; exact h.clearRegs

/-- Every action of the outside keeps the invariant. -/
theorem Good.act {s t : State} (h : Good s) {i : Input} (hact : act i s = .next t) : Good t := by
  cases i with
  | regWrite addr bytes v => exact h.hostRegWrite hact
  | regRead addr bytes => exact h.hostRegRead hact
  | memWrite addr n v => exact h.hostMemWrite hact
  | memRead addr n => exact h.hostMemRead hact
  | setPlatform regions => cases hact; exact ⟨h.wf, h.inSpace, h.copy, h.running, h.idle⟩
  | reset inFlight => exact h.resetUnit hact
  | powerCycle => cases hact; exact good_powerCycle s
  | unitTurn g => exact h.unitTurn hact

/-- With no action left a step is the unit's turn. -/
theorem step_nil {s : State} (h : s.inputs = []) : step s = Machine.unitTurn none s := by
  simp only [step, stepOnce, h]

/-- Else a step is the next action, taken off the queue. -/
theorem step_cons {s : State} {i : Input} {rest : List Input} (h : s.inputs = i :: rest) :
    step s = Machine.act i { s with inputs := rest } := by
  simp only [step, stepOnce, h]

theorem Good.step {s t : State} (h : Good s) (hstep : step s = .next t) : Good t := by
  cases hin : s.inputs with
  | nil => rw [step_nil hin] at hstep; exact h.unitTurn hstep
  | cons i rest =>
    rw [step_cons hin] at hstep
    have hrest : Good { s with inputs := rest } := ⟨h.wf, h.inSpace, h.copy, h.running, h.idle⟩
    exact hrest.act hstep

end Sys2Proof.Machine

namespace Sys2Proof.Proofs

open Machine

/-- Settles O59: the draw of memory at power-on is good, and the unit is idle. -/
theorem invariantAtReset : Obligations.InvariantAtReset := by
  unfold Obligations.InvariantAtReset
  exact (inv_iff_good _).2 good_reset

/-- Settles O60: by the action that the step takes. -/
theorem stepKeepsInvariant : Obligations.StepKeepsInvariant := by
  unfold Obligations.StepKeepsInvariant
  intro s t hs hstep
  exact (inv_iff_good t).2 (((inv_iff_good s).1 hs).step hstep)

end Sys2Proof.Proofs
end

section
/-! PROOFS. The host's side of a step: the register block (10_state R21 to R26, R30, R32), malformed accesses (70 R320),
reset and the power cycle (R35, 70 R310, R311), and the step that runs a presented command (R28, R31). -/

namespace Sys2Proof.Machine

/-! ## Addresses of the register block -/

/-- P_BASE is 256-byte aligned (00_scope R8). -/
theorem toNat_pBase (p : Config.Params) : (pBase p).toNat = p.baseBlock.toNat * 256 := by
  rw [pBase, BitVec.toNat_append, Nat.shiftLeft_eq]
  simp

/-- The block does not wrap around the bus. -/
theorem toNat_pBase_add (p : Config.Params) {off : Nat} (h : off < 256) :
    (pBase p + BitVec.ofNat 32 off).toNat = (pBase p).toNat + off := by
  have hblock := p.baseBlock.isLt
  rw [BitVec.toNat_add, BitVec.toNat_ofNat, toNat_pBase]
  omega

theorem offsetOf_pBase_add (p : Config.Params) {off : Nat} (h : off < 256) :
    offsetOf p (pBase p + BitVec.ofNat 32 off) = off := by
  rw [offsetOf, toNat_pBase_add p h, Nat.add_sub_cancel_left]

theorem reachesBlock_pBase_add (p : Config.Params) {off : Nat} (h : off < 256) (bytes : Nat) :
    reachesBlock p (pBase p + BitVec.ofNat 32 off) bytes = true := by
  simp [reachesBlock, toNat_pBase_add p h, h]

/-- An access to the block is proper exactly where it is 32 bits wide and at a multiple of 4. -/
theorem properAccess_pBase_add (p : Config.Params) {off : Nat} (h : off < 256) (bytes : Nat) :
    properAccess (pBase p + BitVec.ofNat 32 off) bytes = true ↔ bytes = 4 ∧ off % 4 = 0 := by
  have hmod : ((pBase p).toNat + off) % 4 = off % 4 := by rw [toNat_pBase]; omega
  simp [properAccess, toNat_pBase_add p h, hmod]

/-! ## What an access to the block does -/

section
variable (s : State) {off bytes : Nat} (v : BitVec 32)

theorem hostRegWrite_word (h : off < 256) (h4 : off % 4 = 0) :
    hostRegWrite s (pBase s.params + BitVec.ofNat 32 off) 4 v = .next (writeReg s off v) := by
  simp [hostRegWrite, reachesBlock_pBase_add _ h, properAccess_pBase_add _ h, h4, offsetOf_pBase_add _ h]

theorem hostRegWrite_malformed (h : off < 256) (hbad : bytes ≠ 4 ∨ off % 4 ≠ 0) :
    hostRegWrite s (pBase s.params + BitVec.ofNat 32 off) bytes v = .fault .hostProtocol := by
  have himproper : ¬ (bytes = 4 ∧ off % 4 = 0) := by tauto
  simp [hostRegWrite, reachesBlock_pBase_add _ h, properAccess_pBase_add _ h, himproper]

theorem hostRegRead_word (h : off < 256) (h4 : off % 4 = 0) :
    hostRegRead s (pBase s.params + BitVec.ofNat 32 off) 4 =
      .next { s with
        hostReads := { addr := pBase s.params + BitVec.ofNat 32 off, value := readReg s off } :: s.hostReads
        draws := if s.busy = true ∧ (off = 0x20 ∨ off = 0x24) then s.draws + 1 else s.draws } := by
  simp only [hostRegRead, reachesBlock_pBase_add _ h, properAccess_pBase_add _ h, h4, offsetOf_pBase_add _ h,
    isResOffset, Bool.and_eq_true, Bool.or_eq_true, beq_iff_eq, not_true, and_self, if_false]
  split_ifs <;> rfl

theorem hostRegRead_malformed (h : off < 256) (hbad : bytes ≠ 4 ∨ off % 4 ≠ 0) :
    hostRegRead s (pBase s.params + BitVec.ofNat 32 off) bytes = .fault .hostProtocol := by
  have himproper : ¬ (bytes = 4 ∧ off % 4 = 0) := by tauto
  simp [hostRegRead, reachesBlock_pBase_add _ h, properAccess_pBase_add _ h, himproper]

/-- STATUS, RES and the reserved offsets ignore writes (10_state R22). -/
theorem writeReg_readOnly (h : off = 0x04 ∨ 0x20 ≤ off) : writeReg s off v = s := by
  unfold writeReg
  rw [if_neg (by omega), if_neg (by omega), if_neg (by omega), if_neg (by omega), if_neg (by omega),
    if_neg (by omega), if_neg (by omega)]

/-- Reserved offsets read 0 (10_state R22). -/
theorem readReg_reserved (h : 0x28 ≤ off) : readReg s off = 0 := by
  unfold readReg
  rw [if_neg (by omega), if_neg (by omega), if_neg (by omega), if_neg (by omega), if_neg (by omega),
    if_neg (by omega), if_neg (by omega), if_neg (by omega), if_neg (by omega), if_neg (by omega)]

end

/-! ## Halves of the 64-bit registers -/

theorem toNat_lowHalf (r : BitVec 64) : (lowHalf r).toNat = r.toNat % 2 ^ 32 := by
  simp [lowHalf]

theorem toNat_highHalf (r : BitVec 64) : (highHalf r).toNat = r.toNat / 2 ^ 32 := by
  have hr := r.isLt
  rw [highHalf, BitVec.extractLsb'_toNat, Nat.shiftRight_eq_div_pow]
  omega

theorem toNat_append_words (hi lo : BitVec 32) : (hi ++ lo).toNat = hi.toNat * 2 ^ 32 + lo.toNat := by
  rw [BitVec.toNat_append, ← Nat.shiftLeft_add_eq_or_of_lt lo.isLt, Nat.shiftLeft_eq]

theorem toNat_withLow (r : BitVec 64) (v : BitVec 32) : (withLow r v).toNat = r.toNat / 2 ^ 32 * 2 ^ 32 + v.toNat := by
  rw [withLow, toNat_append_words, toNat_highHalf]

theorem toNat_withHigh (r : BitVec 64) (v : BitVec 32) : (withHigh r v).toNat = v.toNat * 2 ^ 32 + r.toNat % 2 ^ 32 := by
  rw [withHigh, toNat_append_words, toNat_lowHalf]

/-- An operand register after a write at `off`, its halves standing at `lo` and `hi`. -/
def halfWritten (r : BitVec 64) (lo hi off : Nat) (v : BitVec 32) : BitVec 64 :=
  if off = lo then withLow r v else if off = hi then withHigh r v else r

theorem toNat_halfWritten (r : BitVec 64) (lo hi off : Nat) (v : BitVec 32) :
    (halfWritten r lo hi off v).toNat =
      if off = lo then r.toNat / 2 ^ 32 * 2 ^ 32 + v.toNat
      else if off = hi then v.toNat * 2 ^ 32 + r.toNat % 2 ^ 32 else r.toNat := by
  simp only [halfWritten, apply_ite BitVec.toNat, toNat_withLow, toNat_withHigh]

/-- A write of an operand half, whether the unit is busy or not (10_state R30). -/
theorem writeReg_operandHalf (s : State) {off : Nat} (v : BitVec 32)
    (h : off ∈ [0x08, 0x0C, 0x10, 0x14, 0x18, 0x1C]) :
    writeReg s off v = { s with
      opa := halfWritten s.opa 0x08 0x0C off v, opb := halfWritten s.opb 0x10 0x14 off v
      opc := halfWritten s.opc 0x18 0x1C off v } := by
  simp only [List.mem_cons, List.not_mem_nil, or_false] at h
  obtain rfl | rfl | rfl | rfl | rfl | rfl := h <;> rfl

/-! ## The STATUS word -/

/-- STATUS as a number: BUSY in bit 0, ERR from bit 4 (10_state R24). -/
theorem toNat_statusWord (s : State) :
    (statusWord s).toNat = (if s.busy then 1 else 0) + 16 * s.err.code.toNat := by
  unfold statusWord
  cases s.busy <;> cases s.err <;> rfl

theorem errCode_lt_five (e : ErrCode) : e.code.toNat < 5 := by cases e <;> decide

/-! ## Reading each register -/

section
variable (s : State)

theorem readReg_status : readReg s 0x04 = statusWord s := rfl
theorem readReg_opaLow : readReg s 0x08 = lowHalf s.opa := rfl
theorem readReg_opaHigh : readReg s 0x0C = highHalf s.opa := rfl
theorem readReg_opbLow : readReg s 0x10 = lowHalf s.opb := rfl
theorem readReg_opbHigh : readReg s 0x14 = highHalf s.opb := rfl
theorem readReg_opcLow : readReg s 0x18 = lowHalf s.opc := rfl
theorem readReg_opcHigh : readReg s 0x1C = highHalf s.opc := rfl

theorem readReg_resLow : readReg s 0x20 = if s.busy then Config.freeBusyRead s.draws else lowHalf s.res := rfl
theorem readReg_resHigh : readReg s 0x24 = if s.busy then Config.freeBusyRead s.draws else highHalf s.res := rfl

end

/-! ## A presented command -/

/-- A word of the table is taken modulo its 32 bits. -/
theorem ofNat_mod_word (w : Nat) : BitVec.ofNat 32 (w % 2 ^ 32) = BitVec.ofNat 32 w := by
  apply BitVec.eq_of_toNat_eq
  simp

theorem decodeWord_of_decodeTableWord {w : Nat} {i : Instr} (h : decodeTableWord 32 w = some i) :
    decodeWord (BitVec.ofNat 32 w) = .ok i := by
  unfold decodeTableWord at h
  rw [ofNat_mod_word] at h
  split at h
  · split at h
    · next hi => cases h; exact hi
    · cases h
  · cases h

theorem legal_of_decodeWord {w : BitVec 32} {i : Instr} (h : decodeWord w = .ok i) : legal w = true := by
  simp [legal, h]

/-- A presented word is accepted and the unit's turn comes next. -/
theorem withFetchWord_of_decode (s : State) {w : Nat} {i : Instr} (h : decodeWord (BitVec.ofNat 32 w) = .ok i) :
    s.withFetchWord 32 w = { s with
      cmd := BitVec.ofNat 32 w, cmdL := BitVec.ofNat 32 w, aL := s.opa, bL := s.opb, cL := s.opc
      err := .none, busy := true, progress := [], hostTouch := [], inputs := .unitTurn none :: s.inputs } := by
  rw [State.withFetchWord, ofNat_mod_word, presentWord, accept, if_pos (legal_of_decodeWord h)]

/-- The turn of a busy unit whose latched word decodes is that command's meaning. -/
theorem unitTurn_of_decode {s : State} {i : Instr} (hb : s.busy = true) (hi : decodeWord s.cmdL = .ok i)
    (g : Option Nat) : unitTurn g s = exec i { s with grant := g } := by
  simp only [unitTurn, hb, hi, if_true]

/-- A step whose action is a turn of the busy unit. -/
theorem step_unitTurn {s : State} {i : Instr} {g : Option Nat} {rest : List Input} (hb : s.busy = true)
    (hi : decodeWord s.cmdL = .ok i) (hin : s.inputs = .unitTurn g :: rest) :
    step s = exec i { s with inputs := rest, grant := g } := by
  rw [step_cons hin]
  exact unitTurn_of_decode (s := { s with inputs := rest }) hb hi g

end Sys2Proof.Machine

namespace Sys2Proof.Proofs

open Machine

/-- Settles O6: reset and the power cycle are each one action, which clears the registers. -/
theorem resetClearsRegistersKeepsMemory : Obligations.ResetClearsRegistersKeepsMemory := by
  unfold Obligations.ResetClearsRegistersKeepsMemory
  refine ⟨rfl, rfl, rfl, rfl, rfl, rfl, rfl, rfl, rfl, rfl, rfl, fun s rest h => ?_, fun s rest h => ?_⟩
  · rw [step_cons h]; rfl
  · rw [step_cons h]; rfl

/-- Settles O9: the half is written by value, and every register's number follows from its halves. -/
theorem operandHalfWrites : Obligations.OperandHalfWrites := by
  unfold Obligations.OperandHalfWrites
  intro s off v rest hoff hin
  have hword : off < 256 ∧ off % 4 = 0 := by
    simp only [List.mem_cons, List.not_mem_nil, or_false] at hoff
    omega
  obtain ⟨hlt, h4⟩ := hword
  refine ⟨halfWritten s.opa 0x08 0x0C off v, halfWritten s.opb 0x10 0x14 off v, halfWritten s.opc 0x18 0x1C off v, ?_,
    toNat_halfWritten _ _ _ _ _, toNat_halfWritten _ _ _ _ _, toNat_halfWritten _ _ _ _ _⟩
  rw [step_cons hin]
  exact (hostRegWrite_word { s with inputs := rest } v hlt h4).trans
    (congrArg Host.Outcome.next (writeReg_operandHalf _ v hoff))

/-- Settles O10: the value returned is the register's, offset by offset. -/
theorem registerReads : Obligations.RegisterReads := by
  unfold Obligations.RegisterReads
  intro s off rest hlt h4 hin
  refine ⟨readReg s off, ?_, ?_⟩
  · rw [step_cons hin]
    exact hostRegRead_word { s with inputs := rest } hlt h4
  refine ⟨?cmd, ?status, ?opaLow, ?opaHigh, ?opbLow, ?opbHigh, ?opcLow, ?opcHigh, ?resLow, ?resHigh, ?resBusy,
    readReg_reserved s⟩
  case cmd => rintro rfl; rfl
  case status => rintro rfl; rw [readReg_status, toNat_statusWord]
  case opaLow => rintro rfl; rw [readReg_opaLow, toNat_lowHalf]
  case opaHigh => rintro rfl; rw [readReg_opaHigh, toNat_highHalf]
  case opbLow => rintro rfl; rw [readReg_opbLow, toNat_lowHalf]
  case opbHigh => rintro rfl; rw [readReg_opbHigh, toNat_highHalf]
  case opcLow => rintro rfl; rw [readReg_opcLow, toNat_lowHalf]
  case opcHigh => rintro rfl; rw [readReg_opcHigh, toNat_highHalf]
  case resLow => rintro rfl hidle; simp [readReg_resLow, hidle, toNat_lowHalf]
  case resHigh => rintro rfl hidle; simp [readReg_resHigh, hidle, toNat_highHalf]
  case resBusy => rintro (rfl | rfl) hbusy <;> simp [readReg_resLow, readReg_resHigh, hbusy]

/-- Settles O11: a proper write there does nothing, a reserved offset reads 0, and an improper access faults. -/
theorem readOnlyAndMalformedAccesses : Obligations.ReadOnlyAndMalformedAccesses := by
  unfold Obligations.ReadOnlyAndMalformedAccesses
  intro s off v bytes rest hlt
  refine ⟨fun hin h4 hro => ?_, fun hin h4 hres => ?_, fun hin hbad => ?_, fun hin hbad => ?_⟩
  · rw [step_cons hin]
    exact (hostRegWrite_word { s with inputs := rest } v hlt h4).trans
      (congrArg Host.Outcome.next (writeReg_readOnly _ v hro))
  · have hnotRes : ¬ (s.busy = true ∧ (off = 0x20 ∨ off = 0x24)) := by omega
    have hread := hostRegRead_word { s with inputs := rest } hlt h4
    rw [readReg_reserved _ hres, if_neg hnotRes] at hread
    rw [step_cons hin]
    exact hread
  · rw [step_cons hin]
    exact hostRegWrite_malformed { s with inputs := rest } v hlt hbad
  · rw [step_cons hin]
    exact hostRegRead_malformed { s with inputs := rest } hlt hbad

/-- Settles O12: the ten words that BUSY and ERR can make, each looked at. -/
theorem statusWordLayout : Obligations.StatusWordLayout := by
  unfold Obligations.StatusWordLayout
  intro s
  refine ⟨?_, ?_, ?_, ?_, rfl, rfl, rfl, rfl, rfl, errCode_lt_five s.err⟩
  all_goals
    unfold statusWord
    cases s.busy <;> cases s.err <;> rfl

/-- Settles O13: a step is a unit turn, and a unit turn is the decoded command's meaning. -/
theorem stepRunsTheLatchedCommand : Obligations.StepRunsTheLatchedCommand := by
  unfold Obligations.StepRunsTheLatchedCommand
  refine ⟨fun s i hb hi => ⟨fun hin => ?_, fun g rest hin => step_unitTurn hb hi hin⟩, fun s w i hw => ?_⟩
  · rw [step_nil hin, unitTurn_of_decode hb hi]
  · have hi := decodeWord_of_decodeTableWord hw
    rw [withFetchWord_of_decode s hi]
    refine step_unitTurn (g := none) (rest := s.inputs) ?busy ?latched ?next
    case busy => rfl
    case latched => exact hi
    case next => rfl

end Sys2Proof.Proofs
end

section
/-! PROOFS. How a command ends in an error: a record address that fails its alignment (20_memory R53, 60 R283), and an
access that the platform or the end of memory answers with an error (20_memory R55, R56, 60 R284). -/

namespace Sys2Proof.Machine

/-! ## The record address -/

/-- A command with a record address checks its alignment before anything else. -/
theorem formProg_eq_checkAlign {f : Form} {s : State} {a k : Nat} (h : recordAddr f s = some (a, k)) :
    ∃ rest : Unit → Prog Int, formProg f s = (checkAlign a k).bind rest := by
  cases f with
  | div | mul | mulw | muldiv | lim | crc8 => cases h
  | dsearch | curve | map | mapg | savg | deb | tstart | telapsed | tisstopped | tstop => cases h; exact ⟨_, rfl⟩

theorem checkAlign_bind_misaligned {α : Type} {a k : Nat} (h : a % k ≠ 0) (f : Unit → Prog α) :
    (checkAlign a k).bind f = .fail .misaligned :=
  raiseIf_bind_true (by simpa using h) _ _

theorem checkAlign_bind_aligned {α : Type} {a k : Nat} (h : a % k = 0) (f : Unit → Prog α) :
    (checkAlign a k).bind f = f () :=
  raiseIf_bind_false (by simpa using h) _ _

/-- A program that has reached its error ends the command, unless the turn has no step left. -/
theorem run_fail_granted {g : Option Nat} (hg : g ≠ some 0) (e : ErrCode) (d : List Access) (s : State) :
    (Prog.fail e : Prog Int).run g d s = .next (Errored s s.mem e) := by
  match g with
  | none => rfl
  | some 0 => exact absurd rfl hg
  | some (k + 1) => rfl

/-! ## Accesses answered with an error -/

theorem inRange_iff (a : Nat) (n : Size) : inRange a n = true ↔ a + n.bytes ≤ 2 ^ 32 := by simp [inRange]

section
variable {α : Type} {regions : List Region} {a : Nat} {n : Size} {m : Memory}

/-- The platform's error on a read, a device aside. -/
theorem eval_read_fails (k : BitVec 32 → Prog α) (hdev : hitsRegion regions a n RegionKind.isDevice = false)
    (hfail : hitsRegion regions a n RegionKind.failsRead = true) :
    (Prog.read a n k).eval regions m = .error .busErr m := by
  simp [Prog.eval, hdev, hfail]

/-- The platform's error on a write, a device aside. -/
theorem eval_write_fails (v : BitVec 32) (k : Prog α) (hdev : hitsRegion regions a n RegionKind.isDevice = false)
    (hfail : hitsRegion regions a n RegionKind.failsWrite = true) :
    (Prog.write a n v k).eval regions m = .error .busErr m := by
  simp [Prog.eval, hdev, hfail]

/-- The range check of 20_memory R55, which comes before the platform's answer. -/
theorem eval_read_outside (k : BitVec 32 → Prog α) (h : inRange a n = false) :
    (Prog.read a n k).eval regions m = .error .busErr m := by
  simp [Prog.eval, h]

end

/-- A program that ends in an error, and what would have followed it. -/
theorem eval_bind_error {α β : Type} {g : List Region} (p : Prog α) (f : α → Prog β) {e : ErrCode} :
    ∀ {m m' : Memory}, p.eval g m = .error e m' → (p.bind f).eval g m = .error e m' := by
  induction p with
  | pure x => intro m m' h; cases h
  | fail e' => intro m m' h; cases h; rfl
  | read a n k ih =>
    intro m m' h
    simp only [Prog.eval, Prog.bind_read] at h ⊢
    split_ifs at h ⊢
    · cases h; rfl
    · exact ih _ h
    · cases h; rfl
  | write a n v k ih =>
    intro m m' h
    simp only [Prog.eval, Prog.bind_write] at h ⊢
    split_ifs at h ⊢
    · cases h; rfl
    · exact ih h
    · cases h; rfl

/-- A command that reaches memory makes its first access right after the alignment check. -/
theorem formProg_eq_firstAccess {f : Form} {s : State} {a : Nat} {n : Size} {w : Bool}
    (h : firstAccess f s = some (a, n, w)) (halign : ∀ b k, recordAddr f s = some (b, k) → b % k = 0) :
    (w = false ∧ ∃ k, formProg f s = .read a n k) ∨ (w = true ∧ ∃ v k, formProg f s = .write a n v k) := by
  cases f with
  | div | mul | mulw | muldiv | lim => cases h
  | dsearch | curve | map | mapg | savg | deb | telapsed | tisstopped =>
    cases h
    exact .inl ⟨rfl, _, checkAlign_bind_aligned (halign _ _ rfl) _⟩
  | tstart | tstop =>
    cases h
    exact .inr ⟨rfl, _, _, checkAlign_bind_aligned (halign _ _ rfl) _⟩
  | crc8 =>
    cases hlen : (low32 s.bL).toNat with
    | zero => simp [firstAccess, hlen] at h
    | succ l =>
      simp only [firstAccess, hlen, Nat.succ_ne_zero, if_false, Option.some.injEq, Prod.mk.injEq] at h
      obtain ⟨rfl, rfl, rfl⟩ := h
      refine .inl ⟨rfl, ?_⟩
      simp only [formProg, crc8Prog, hlen, crcLoop, memRead_bind, Prog.bind_read]
      exact ⟨_, rfl⟩

/-- Reading a table stops with a bus error at its first element past the end of memory. -/
theorem eval_readElems_outside (s : State) (a : Nat) (et : Elem) (m : Memory) (n : Nat) :
    ∀ k j, j < n → (∀ i, i < j → readable s (a + 2 * (k + i)) .b2 = true) → inRange (a + 2 * (k + j)) .b2 = false →
      (readElems a et n k).eval s.platform m = .error .busErr m := by
  induction n with
  | zero => intro k j hj; omega
  | succ n ih =>
    intro k j hj hread hout
    simp only [readElems]
    cases j with
    | zero =>
      simp only [elem, memRead_bind, Prog.bind_read]
      exact eval_read_outside _ hout
    | succ j =>
      have hnext : ∀ i, k + 1 + i = k + (i + 1) := fun i => by omega
      have hfirst : readable s (a + 2 * k) .b2 = true := hread 0 (by omega)
      rw [eval_bind_done _ _ (eval_elem m hfirst)]
      refine eval_bind_error _ _ (ih (k + 1) j (by omega) (fun i hi => ?_) ?_)
      · rw [hnext]; exact hread (i + 1) (by omega)
      · rwa [hnext]

/-- The count and the elements of a distribution are read before anything is made of them, so an element past the end of
memory ends the command, whatever follows. -/
theorem eval_distribution_outside {s : State} {d k : Nat} {et : Elem} (f : BitVec 32 → List Int → Prog Int)
    (hd : d % 2 = 0) (hcount : 2 ≤ countAt s.mem d) (hk : k < countAt s.mem d) (hread : elemsReadable s d (k + 1))
    (hout : 2 ^ 32 < d + 2 * (k + 1) + 2) :
    ((checkAlign d 2).bind fun _ => (memRead d .b2).bind fun n =>
      (raiseIf (decide (n.toNat < 2)) .precond).bind fun _ =>
      (readElems (d + 2) et n.toNat 0).bind (f n)).eval s.platform s.mem = .error .busErr s.mem := by
  have helem : ∀ i, d + 2 + 2 * (0 + i) = d + 2 * (i + 1) := fun i => by omega
  have hrange : inRange (d + 2 + 2 * (0 + k)) .b2 = false := by
    rw [← Bool.not_eq_true, inRange_iff, helem]; simp only [Size.bytes]; omega
  have htable := eval_readElems_outside s (d + 2) et s.mem _ 0 k hk
    (fun i hi => by rw [helem]; exact hread (i + 1) (by omega)) hrange
  have hfirst : readable s d .b2 = true := hread 0 (by omega)
  have hn : ¬ (loadMem s.mem d .b2).toNat < 2 := Nat.not_lt.2 hcount
  rw [checkAlign_bind_aligned hd, memRead_bind, eval_read _ _ hfirst, eval_raiseIf, decide_eq_false hn]
  exact eval_bind_error _ _ htable

end Sys2Proof.Machine

namespace Sys2Proof.Proofs

open Machine

/-- Settles O51: the alignment check is the command's first move, whatever was done before. -/
theorem misalignedRecordsRejected : Obligations.MisalignedRecordsRejected := by
  unfold Obligations.MisalignedRecordsRejected
  intro i s a k hg haddr hmis
  obtain ⟨rest, hprog⟩ := formProg_eq_checkAlign haddr
  rw [exec_eq_runCommand, runCommand, hprog, checkAlign_bind_misaligned hmis]
  exact run_fail_granted hg _ _ _

/-- Settles O52: once aligned, the command's program begins with that access. -/
theorem firstAccessBusError : Obligations.FirstAccessBusError := by
  unfold Obligations.FirstAccessBusError
  intro i s a n w hu hfirst halign hdev hfail
  rw [exec_undisturbed i hu]
  obtain ⟨rfl, k, hprog⟩ | ⟨rfl, v, k, hprog⟩ := formProg_eq_firstAccess hfirst halign
  · rw [hprog, eval_read_fails k hdev hfail]; rfl
  · rw [hprog, eval_write_fails v k hdev hfail]; rfl

/-- Settles O53: both commands begin by reading a distribution. -/
theorem elementPastTheEndOfMemory : Obligations.ElementPastTheEndOfMemory := by
  unfold Obligations.ElementPastTheEndOfMemory
  intro i et s k hform hu hd hcount hk hread hout
  rw [exec_undisturbed i hu]
  have hend : (formProg i.form s).eval s.platform s.mem = .error .busErr s.mem := by
    obtain hform | hform := hform <;> rw [hform] <;> exact eval_distribution_outside _ hd hcount hk hread hout
  rw [hend]; rfl

/-- Settles O54: every read of SAVG comes before its first write, which is SUM's, and BUF[c]'s is the second. -/
theorem writeErrorKeepsEarlierWrites : Obligations.WriteErrorKeepsEarlierWrites := by
  unfold Obligations.WriteErrorKeepsEarlierWrites
  rintro i et s a c n hform hu rfl rfl rfl halign hc hsum hcur hlen hslot hwsum hfail
  have hcheck : (decide (countAt s.mem (addrOf s.aL + 6) = 0) ||
      decide (countAt s.mem (addrOf s.aL + 6) ≤ countAt s.mem (addrOf s.aL + 4))) = false := by
    simp only [Bool.or_eq_false_iff, decide_eq_false_iff_not]; omega
  have hdev : hitsRegion s.platform (addrOf s.aL + 8 + 2 * countAt s.mem (addrOf s.aL + 4)) .b2
      RegionKind.isDevice = false := by
    simp only [readable, Bool.and_eq_true, Bool.not_eq_true'] at hslot
    exact hslot.1.2
  rw [exec_undisturbed i hu, hform, formProg, savgProg, checkAlign_bind_aligned halign]
  simp only [memRead_bind, memWrite_bind]
  rw [eval_read _ _ hsum, eval_read _ _ hcur, eval_read _ _ hlen, eval_raiseIf, ← countAt, ← countAt, hcheck,
    if_neg Bool.false_ne_true, eval_read _ _ hslot, eval_write _ _ _ hwsum, eval_write_fails _ _ hdev hfail]
  rfl

end Sys2Proof.Proofs
end

section
/-! PROOFS. Running a command that only reads again on what it left (20_memory R58), from which errors a command's rule
raises itself (60_exceptions R287). -/

namespace Sys2Proof.Machine

/-! ## The errors that a rule raises itself -/

/-- Every error that the program raises itself, on any path, satisfies `ok`; the port's bus errors are not among them. -/
def Prog.RaisesOnly {α : Type} (ok : ErrCode → Prop) : Prog α → Prop
  | .pure _ => True
  | .fail e => ok e
  | .read _ _ k => ∀ v, (k v).RaisesOnly ok
  | .write _ _ _ k => k.RaisesOnly ok

section
variable {α β : Type} {ok : ErrCode → Prop}

theorem Prog.RaisesOnly.bind {p : Prog α} {f : α → Prog β} (hp : p.RaisesOnly ok) (hf : ∀ r, (f r).RaisesOnly ok) :
    (p.bind f).RaisesOnly ok := by
  induction p with
  | pure r => exact hf r
  | fail e => exact hp
  | read a n k ih => exact fun v => ih v (hp v)
  | write a n v k ih => exact ih hp

theorem raisesOnly_memRead (a : Nat) (n : Size) : (memRead a n).RaisesOnly ok := fun _ => trivial

theorem raisesOnly_memWrite (a : Nat) (n : Size) (v : BitVec 32) : (memWrite a n v).RaisesOnly ok := trivial

theorem raisesOnly_raiseIf {e : ErrCode} (h : ok e) (c : Bool) : (raiseIf c e).RaisesOnly ok := by
  cases c
  · trivial
  · exact h

theorem raisesOnly_checkAlign (h : ok .misaligned) (a k : Nat) : (checkAlign a k).RaisesOnly ok := raisesOnly_raiseIf h _

theorem raisesOnly_checkDist (h : ok .precond) (d : List Int) : (checkDist d).RaisesOnly ok := raisesOnly_raiseIf h _

theorem raisesOnly_elem (a k : Nat) (et : Elem) : (elem a k et).RaisesOnly ok := fun _ => trivial

theorem raisesOnly_readElems (a : Nat) (et : Elem) (n : Nat) : ∀ k, (readElems a et n k).RaisesOnly ok := by
  induction n with
  | zero => exact fun _ => trivial
  | succ n ih => exact fun k => (raisesOnly_elem a k et).bind fun _ => (ih (k + 1)).bind fun _ => trivial

theorem raisesOnly_crcLoop (n : Nat) : ∀ (a : Nat) (crc : BitVec 8), (crcLoop n a crc).RaisesOnly ok := by
  induction n with
  | zero => exact fun _ _ => trivial
  | succ n ih => exact fun a crc => (raisesOnly_memRead a .b1).bind fun b => ih (a + 1) _

theorem raisesOnly_curveValue (p : Config.Params) (et : Elem) (x : Int) (xs : List Int) (yb : Nat) :
    (curveValue p et x xs yb).RaisesOnly ok := by
  unfold curveValue
  split_ifs
  · exact raisesOnly_elem _ _ _
  · exact raisesOnly_elem _ _ _
  · exact (raisesOnly_elem _ _ _).bind fun _ => (raisesOnly_elem _ _ _).bind fun _ => trivial

theorem raisesOnly_rowBlend (p : Config.Params) (et : Elem) (g ny iy ry i : Nat) :
    (rowBlend p et g ny iy ry i).RaisesOnly ok := by
  refine (raisesOnly_elem _ _ _).bind fun z0 => ?_
  split_ifs
  · trivial
  · exact (raisesOnly_elem _ _ _).bind fun _ => trivial

theorem raisesOnly_blend (p : Config.Params) (et : Elem) (m nx ny ix rx iy ry : Nat) :
    (blend p et m nx ny ix rx iy ry).RaisesOnly ok := by
  refine (raisesOnly_rowBlend p et _ ny iy ry ix).bind fun z => ?_
  split_ifs
  · trivial
  · exact (raisesOnly_rowBlend p et _ ny iy ry (ix + 1)).bind fun _ => trivial

end

/-- A command's rule raises only what R287's table has for it, and an error is never NONE. -/
theorem formProg_raisesOnly (f : Form) (s : State) :
    (formProg f s).RaisesOnly fun e => e ≠ .none ∧ mayEnd f e = true := by
  cases f with
  | div | mul | mulw | muldiv | lim => trivial
  | dsearch et =>
    exact (raisesOnly_checkAlign ⟨nofun, rfl⟩ _ _).bind fun _ => (raisesOnly_memRead _ _).bind fun _ =>
      (raisesOnly_raiseIf ⟨nofun, rfl⟩ _).bind fun _ => (raisesOnly_readElems _ _ _ _).bind fun _ =>
      (raisesOnly_checkDist ⟨nofun, rfl⟩ _).bind fun _ => trivial
  | curve et =>
    exact (raisesOnly_checkAlign ⟨nofun, rfl⟩ _ _).bind fun _ => (raisesOnly_memRead _ _).bind fun _ =>
      (raisesOnly_raiseIf ⟨nofun, rfl⟩ _).bind fun _ => (raisesOnly_readElems _ _ _ _).bind fun _ =>
      (raisesOnly_checkDist ⟨nofun, rfl⟩ _).bind fun _ => raisesOnly_curveValue _ _ _ _ _
  | map et =>
    exact (raisesOnly_checkAlign ⟨nofun, rfl⟩ _ _).bind fun _ => (raisesOnly_memRead _ _).bind fun _ =>
      (raisesOnly_memRead _ _).bind fun _ => (raisesOnly_raiseIf ⟨nofun, rfl⟩ _).bind fun _ =>
      (raisesOnly_readElems _ _ _ _).bind fun _ => (raisesOnly_readElems _ _ _ _).bind fun _ =>
      (raisesOnly_checkDist ⟨nofun, rfl⟩ _).bind fun _ => (raisesOnly_checkDist ⟨nofun, rfl⟩ _).bind fun _ =>
      raisesOnly_blend _ _ _ _ _ _ _ _ _
  | mapg et =>
    exact (raisesOnly_checkAlign ⟨nofun, rfl⟩ _ _).bind fun _ => (raisesOnly_memRead _ _).bind fun _ =>
      (raisesOnly_memRead _ _).bind fun _ => (raisesOnly_raiseIf ⟨nofun, rfl⟩ _).bind fun _ =>
      (raisesOnly_raiseIf ⟨nofun, rfl⟩ _).bind fun _ => raisesOnly_blend _ _ _ _ _ _ _ _ _
  | savg et =>
    exact (raisesOnly_checkAlign ⟨nofun, rfl⟩ _ _).bind fun _ => (raisesOnly_memRead _ _).bind fun _ =>
      (raisesOnly_memRead _ _).bind fun _ => (raisesOnly_memRead _ _).bind fun _ =>
      (raisesOnly_raiseIf ⟨nofun, rfl⟩ _).bind fun _ => (raisesOnly_memRead _ _).bind fun _ =>
      (raisesOnly_memWrite _ _ _).bind fun _ => (raisesOnly_memWrite _ _ _).bind fun _ =>
      (raisesOnly_memWrite _ _ _).bind fun _ => trivial
  | deb =>
    exact (raisesOnly_checkAlign ⟨nofun, rfl⟩ _ _).bind fun _ => (raisesOnly_memRead _ _).bind fun _ =>
      (raisesOnly_memRead _ _).bind fun _ => (raisesOnly_memRead _ _).bind fun _ => (raisesOnly_memRead _ _).bind fun _ =>
      (raisesOnly_memWrite _ _ _).bind fun _ => (raisesOnly_memWrite _ _ _).bind fun _ => trivial
  | telapsed | tisstopped =>
    exact (raisesOnly_checkAlign ⟨nofun, rfl⟩ _ _).bind fun _ => (raisesOnly_memRead _ _).bind fun _ => trivial
  | tstart | tstop =>
    exact (raisesOnly_checkAlign ⟨nofun, rfl⟩ _ _).bind fun _ => (raisesOnly_memWrite _ _ _).bind fun _ => trivial
  | crc8 => exact (raisesOnly_crcLoop _ _ _).bind fun _ => trivial

/-- An evaluation ends in a bus error of the port or in an error of the program's own. -/
theorem error_of_raisesOnly {α : Type} {ok : ErrCode → Prop} {regions : List Region} {e : ErrCode} {m' : Memory}
    {p : Prog α} (hp : p.RaisesOnly ok) :
    ∀ {m : Memory}, p.eval regions m = .error e m' → e = .busErr ∨ ok e := by
  induction p with
  | pure r => intro m h; cases h
  | fail e' => intro m h; cases h; exact .inr hp
  | read a n k ih =>
    intro m h
    simp only [Prog.eval] at h
    split_ifs at h
    · cases h; exact .inl rfl
    · exact ih _ (hp _) h
    · cases h; exact .inl rfl
  | write a n v k ih =>
    intro m h
    simp only [Prog.eval] at h
    split_ifs at h
    · cases h; exact .inl rfl
    · exact ih hp h
    · cases h; exact .inl rfl

/-! ## A command run again -/

/-- An undisturbed command that leaves ERR at NONE ended normally. -/
theorem eval_done_of_err_none {i : Instr} {s t : State} (hu : Undisturbed s = true) (h : exec i s = .next t)
    (herr : t.err = .none) :
    ∃ r m, (formProg i.form s).eval s.platform s.mem = .done r m ∧ t = Completed s m r := by
  rw [exec_undisturbed i hu] at h
  cases hend : (formProg i.form s).eval s.platform s.mem with
  | done r m => rw [hend] at h; cases h; exact ⟨r, m, rfl, rfl⟩
  | error e m =>
    rw [hend] at h
    cases h
    change e = .none at herr
    subst herr
    obtain hbus | ⟨hne, -⟩ := error_of_raisesOnly (formProg_raisesOnly i.form s) hend
    · cases hbus
    · exact absurd rfl hne
  | refused r => rw [hend] at h; cases h

/-- A normal end leaves the latches and the parameters, so the command's program is the same as before. -/
theorem formProg_completed (f : Form) (s : State) (m : Memory) (r : Int) :
    formProg f (Completed s m r) = formProg f s := by cases f <;> rfl

theorem undisturbed_completed {s : State} (h : Undisturbed s = true) (m : Memory) (r : Int) :
    Undisturbed (Completed s m r) = true := by
  simp only [Undisturbed, Bool.and_eq_true, beq_iff_eq] at h
  simp [Undisturbed, Completed, h.1.2]

end Sys2Proof.Machine

namespace Sys2Proof.Proofs

open Machine

/-- Settles O56: the second run evaluates the same program on the same memory. -/
theorem readOnlyCommandsAreIdempotent : Obligations.ReadOnlyCommandsAreIdempotent := by
  unfold Obligations.ReadOnlyCommandsAreIdempotent
  intro i s t hro hu _ hexec herr
  obtain ⟨r, m, heval, rfl⟩ := eval_done_of_err_none hu hexec herr
  have hm : m = s.mem := exec_mem_of_writeFree hro hexec
  subst hm
  rw [exec_undisturbed i (undisturbed_completed hu _ r), formProg_completed]
  exact congrArg (Ended.outcome _) heval

end Sys2Proof.Proofs
end

section
/-! PROOFS. Races between the unit and the host (20_memory R71, 70 R322): when one is recorded, and what a racing read
gives. -/

namespace Sys2Proof.Machine

/-! ## Which accesses meet -/

theorem overlaps_iff (a : Nat) (n : Size) (b : Nat) (k : Size) :
    overlaps a n b k = true ↔ a < b + k.bytes ∧ b < a + n.bytes := by simp [overlaps]

section
variable (s : State) (a : Nat) (n : Size)

theorem racingWrites_eq : racingWrites s a n =
    s.hostTouch.filter fun x => x.isWrite && decide (a < x.addr + x.size.bytes) && decide (x.addr < a + n.bytes) := by
  simp [racingWrites, touching, List.filter_filter, overlaps, Bool.and_assoc]

theorem unitWrites_eq : unitWrites s a n =
    s.progress.filter fun x => x.isWrite && decide (a < x.addr + x.size.bytes) && decide (x.addr < a + n.bytes) := by
  simp [unitWrites, overlaps, Bool.and_assoc]

/-- A host write meets the command's reads and its writes. -/
theorem doneTouches_iff : doneTouches s a n false = true ↔
    ∃ x ∈ s.progress, a < x.addr + x.size.bytes ∧ x.addr < a + n.bytes := by
  simp [doneTouches, overlaps_iff]

/-- A host read meets the command's writes only. -/
theorem doneTouches_writesOnly : doneTouches s a n true = !(unitWrites s a n).isEmpty := by
  rw [Bool.eq_iff_iff]
  simp [doneTouches, unitWrites, and_comm]

theorem touching_ne_nil_iff : touching s a n ≠ [] ↔
    ∃ x ∈ s.hostTouch, a < x.addr + x.size.bytes ∧ x.addr < a + n.bytes := by
  simp [touching, overlaps_iff]

end

/-! ## What a racing read gives -/

/-- Memory with the writes made again in their order, each marked as seen or not. -/
def redone (m : Memory) (seen : List (BusyWrite × Bool)) : Memory :=
  seen.foldl (fun m p => if p.2 then storeMem m p.1.addr p.1.size p.1.value else m) m

/-- A racing read gives memory before the writes that share a byte with it, those writes made again, each free one seen or
not and every other seen. -/
theorem racingValue_eq (s : State) (a : Nat) (n : Size) (free : BusyWrite → Bool) :
    ∃ seen : List (BusyWrite × Bool), seen.map Prod.fst = writesOver s a n ∧
      (∀ p ∈ seen, free p.1 = false → p.2 = true) ∧
      racingValue s a n free = loadMem (redone (takenBack s.mem (writesOver s a n)) seen) a n := by
  obtain ⟨seen, hfst, hseen, hmem⟩ :=
    seenAgain_eq free (Config.raceChoice s.draws) (takenBack s.mem (writesOver s a n)) (writesOver s a n)
  exact ⟨seen, hfst, hseen, congrArg (loadMem · a n) hmem⟩

/-- A write of the unit among those a host read meets is one of its racing writes. -/
theorem mem_unitWrites_of_writesOver {s : State} {a : Nat} {n : Size} {u : BusyWrite} (hu : u ∈ writesOver s a n)
    (hunit : u.byUnit = true) : ∃ x ∈ unitWrites s a n, x.addr = u.addr ∧ x.size = u.size := by
  obtain ⟨hmem, hover⟩ := List.mem_filter.1 hu
  obtain hhost | ⟨x, hx, hwrite, rfl⟩ := (mem_inOrder s.progress 0 s.hostTouch).1 hmem
  · obtain ⟨y, -, -, rfl⟩ := mem_hostWrites.1 hhost
    cases hunit
  · exact ⟨x, List.mem_filter.2 ⟨hx, by simp [hwrite, hover]⟩, rfl, rfl⟩

/-- For a host read, a host write is free only where it shares a byte with one of the unit's racing writes. -/
theorem freeForHost_eq_false {s : State} {a : Nat} {n : Size} {w : BusyWrite} (hhost : w.byUnit = false)
    (hapart : ∀ x ∈ unitWrites s a n, ¬ (w.addr < x.addr + x.size.bytes ∧ x.addr < w.addr + w.size.bytes)) :
    freeForHost (writesOver s a n) w = false := by
  rw [← Bool.not_eq_true]
  intro hfree
  simp only [freeForHost, hhost, Bool.false_or, List.any_eq_true, Bool.and_eq_true, overlaps_iff] at hfree
  obtain ⟨u, hu, hunit, hmeet⟩ := hfree
  obtain ⟨x, hx, haddr, hsize⟩ := mem_unitWrites_of_writesOver hu hunit
  exact hapart x hx (by rwa [haddr, hsize])

/-! ## The port, races included -/

/-- A read that the port answers while the host has written some of its bytes gives the racing value. -/
theorem portRead_racing {s t : State} {a : Nat} {n : Size} {v : BitVec 32} (h : portRead s a n = .ok v t)
    (hrace : racingWrites s a n ≠ []) : v = racingValue s a n freeForUnit := by
  unfold portRead at h
  split_ifs at h with h1 h2 h3 h4
  · exact absurd (List.isEmpty_iff.1 h4) hrace
  · cases h; rfl

/-- A write that the port answers stores its value, and RACE is recorded where the host has touched one of its bytes. -/
theorem portWrite_race {s t : State} {a : Nat} {n : Size} {v w : BitVec 32} (h : portWrite s a n v = .ok w t) :
    t = { s with mem := storeMem s.mem a n v, raceFault := t.raceFault } ∧
      (t.raceFault = true ↔ s.raceFault = true ∨ touching s a n ≠ []) := by
  unfold portWrite at h
  split_ifs at h with h1 h2 h3 h4
  · cases h; exact ⟨rfl, by simp [List.isEmpty_iff.1 h4]⟩
  · cases h; exact ⟨rfl, by simpa using Or.inr (List.isEmpty_iff.not.1 h4)⟩

/-! ## The host's accesses -/

/-- A host access while BUSY = 0 is not noted. -/
theorem State.hostTouches_idle {s : State} (h : s.busy = false) (a : Nat) (n : Size) (w : Bool) (v : BitVec 32) :
    s.hostTouches a n w v = s := by simp [State.hostTouches, h]

/-- What a host read of memory leaves, with the value that it returns: its note, a draw where it races, and the value. -/
theorem hostMemRead_next {s : State} {addr : BitVec 32} {n : Size} (h : addr.toNat + n.bytes ≤ 2 ^ 32) :
    ∃ v, hostMemRead s addr n = .next { s with
        hostReads := { addr, value := v } :: s.hostReads
        hostTouch := (s.hostTouches addr.toNat n false 0).hostTouch
        raceFault := s.raceFault || (s.busy && !(unitWrites s addr.toNat n).isEmpty)
        draws := if (unitWrites s addr.toNat n).isEmpty then s.draws else s.draws + 1 } ∧
      (unitWrites s addr.toNat n = [] → v = loadMem s.mem addr.toNat n) ∧
      (unitWrites s addr.toNat n ≠ [] →
        v = racingValue s addr.toNat n (freeForHost (writesOver s addr.toNat n))) := by
  have hnoted : s.hostTouches addr.toNat n false 0 = { s with
      hostTouch := (s.hostTouches addr.toNat n false 0).hostTouch
      raceFault := s.raceFault || (s.busy && !(unitWrites s addr.toNat n).isEmpty) } := by
    rw [← doneTouches_writesOnly]
    unfold State.hostTouches
    split
    · next hb => simp [hb]
    · next hb =>
      have hidle : (s.busy && doneTouches s addr.toNat n true) = false := by simp [hb]
      rw [hidle, Bool.or_false]
  by_cases hrace : unitWrites s addr.toNat n = []
  · refine ⟨_, ?_, fun _ => rfl, fun h => absurd hrace h⟩
    rw [hostMemRead, if_pos ((inRange_iff _ _).2 h), hnoted]
    simp [hrace, State.returnRead]
  · refine ⟨_, ?_, fun h => absurd h hrace, fun _ => rfl⟩
    rw [hostMemRead, if_pos ((inRange_iff _ _).2 h), hnoted]
    simp [hrace, State.returnRead, State.drawn]

end Sys2Proof.Machine

namespace Sys2Proof.Proofs

open Machine

/-- Settles O57: the write is noted while BUSY = 1, which is where RACE can be recorded, and then performed. -/
theorem hostWriteRace : Obligations.HostWriteRace := by
  unfold Obligations.HostWriteRace
  intro s addr v n rest hin hrange
  refine ⟨(({ s with inputs := rest } : State).hostTouches addr.toNat n true v).setMem (storeMem s.mem addr.toNat n v),
    ?_, rfl, by simp, by simp, by simp, by simp, by simp, by simp, fun hidle => ?_, fun hbusy => ?_⟩
  · rw [step_cons hin]
    exact if_pos ((inRange_iff _ _).2 hrange)
  · rw [State.hostTouches_idle (s := { s with inputs := rest }) hidle]; rfl
  · simp only [State.setMem_raceFault, State.hostTouches_raceFault, hbusy, if_true, Bool.or_eq_true, Bool.not_true,
      doneTouches_iff]

/-- Settles O58: reads and writes of the unit's port, and reads of the host, each with a race and without. -/
theorem racingReadSeesOldOrNew : Obligations.RacingReadSeesOldOrNew := by
  unfold Obligations.RacingReadSeesOldOrNew
  refine ⟨fun s t a n v h => ?unitRead, fun s t a n v w h => ?unitWrite, fun s addr n rest hin hrange => ?hostRead⟩
  case unitRead =>
    intro racing
    have hracing : racing = racingWrites s a n := (racingWrites_eq s a n).symm
    rw [hracing]
    obtain ⟨-, ⟨hnone, hv, ht⟩ | ⟨hrace, ht⟩⟩ := portRead_ok h
    · exact ⟨fun _ => ⟨hv, ht⟩, fun hrace => absurd hnone hrace⟩
    · refine ⟨fun hnone => absurd hnone hrace, fun _ => ⟨ht, ?_⟩⟩
      obtain ⟨seen, hfst, hseen, hvalue⟩ := racingValue_eq s a n freeForUnit
      exact ⟨seen, hfst, fun p hp hunit => hseen p hp (by simp [freeForUnit, hunit]),
        (portRead_racing h hrace).trans hvalue⟩
  case unitWrite =>
    rw [← touching_ne_nil_iff]
    exact portWrite_race h
  case hostRead =>
    intro racing
    have hracing : racing = unitWrites s addr.toNat n := (unitWrites_eq s addr.toNat n).symm
    rw [hracing]
    obtain ⟨v, hnext, hquiet, hrace⟩ := hostMemRead_next (s := { s with inputs := rest }) hrange
    refine ⟨_, v, ?_, rfl, hquiet, fun hne => ?_⟩
    · rw [step_cons hin]
      refine hnext.trans ?_
      rw [State.hostTouches_hostTouch]
      rfl
    · obtain ⟨seen, hfst, hseen, hvalue⟩ :=
        racingValue_eq s addr.toNat n (freeForHost (writesOver s addr.toNat n))
      exact ⟨seen, hfst, fun p hp hhost hapart => hseen p hp (freeForHost_eq_false hhost hapart),
        (hrace hne).trans hvalue⟩

end Sys2Proof.Proofs
end

section
/-! PROOFS. The encoding of commands (30_encoding R80 to R84, R87): the fields of an assembled word, the command of a
form, and decoding read off both; `legal(w)` is R84's conjunction because both speak of the same forms. -/

namespace Sys2Proof

/-! ## The fields of a word (R80) -/

theorem toNat_opField (w : BitVec 32) : (opField w).toNat = w.toNat % 0x100 := by
  simp [opField]

theorem toNat_aField (w : BitVec 32) : (aField w).toNat = w.toNat / 0x100 % 0x10 := by
  simp [aField, Nat.shiftRight_eq_div_pow]

theorem toNat_bField (w : BitVec 32) : (bField w).toNat = w.toNat / 0x1000 % 0x10 := by
  simp [bField, Nat.shiftRight_eq_div_pow]

theorem toNat_cField (w : BitVec 32) : (cField w).toNat = w.toNat / 0x10000 % 0x10 := by
  simp [cField, Nat.shiftRight_eq_div_pow]

theorem toNat_rField (w : BitVec 32) : (rField w).toNat = w.toNat / 0x100000 % 0x10 := by
  simp [rField, Nat.shiftRight_eq_div_pow]

theorem toNat_reservedField (w : BitVec 32) : (reservedField w).toNat = w.toNat / 0x1000000 := by
  have hw := w.isLt
  rw [reservedField, BitVec.extractLsb'_toNat, Nat.shiftRight_eq_div_pow]
  omega

/-- The reserved bits are 0 exactly in the words below 2^24. -/
theorem reservedField_eq_zero_iff (w : BitVec 32) : reservedField w = 0 ↔ w.toNat < 0x1000000 := by
  rw [← BitVec.toNat_inj, toNat_reservedField]
  simp

/-- The fields as numbers are the decoder's fields. -/
theorem fieldsOf_eq (w : BitVec 32) :
    fieldsOf w =
      { op := (opField w).toNat, ta := (aField w).toNat, tb := (bField w).toNat, tc := (cField w).toNat
        tr := (rField w).toNat, reserved := (reservedField w).toNat } := by
  simp only [fieldsOf, toNat_opField, toNat_aField, toNat_bField, toNat_cField, toNat_rField, toNat_reservedField]

/-- A field put below the others, as numbers. -/
theorem toNat_append_field {m n : Nat} (x : BitVec m) (y : BitVec n) :
    (x ++ y).toNat = x.toNat * 2 ^ n + y.toNat := by
  rw [BitVec.toNat_append, ← Nat.shiftLeft_add_eq_or_of_lt y.isLt, Nat.shiftLeft_eq]

section
variable (op : BitVec 8) (a b c r : BitVec 4)

theorem toNat_assemble :
    (assemble op a b c r).toNat =
      (((r.toNat * 0x10 + c.toNat) * 0x10 + b.toNat) * 0x10 + a.toNat) * 0x100 + op.toNat := by
  simp only [assemble, toNat_append_field]
  simp

@[simp] theorem opField_assemble : opField (assemble op a b c r) = op := by
  apply BitVec.eq_of_toNat_eq
  rw [toNat_opField, toNat_assemble]
  omega

@[simp] theorem aField_assemble : aField (assemble op a b c r) = a := by
  apply BitVec.eq_of_toNat_eq
  rw [toNat_aField, toNat_assemble]
  omega

@[simp] theorem bField_assemble : bField (assemble op a b c r) = b := by
  apply BitVec.eq_of_toNat_eq
  rw [toNat_bField, toNat_assemble]
  omega

@[simp] theorem cField_assemble : cField (assemble op a b c r) = c := by
  apply BitVec.eq_of_toNat_eq
  rw [toNat_cField, toNat_assemble]
  omega

@[simp] theorem rField_assemble : rField (assemble op a b c r) = r := by
  apply BitVec.eq_of_toNat_eq
  rw [toNat_rField, toNat_assemble]
  omega

@[simp] theorem reservedField_assemble : reservedField (assemble op a b c r) = 0 := by
  rw [reservedField_eq_zero_iff, toNat_assemble]
  omega

/-- The decoder reads an assembled word's fields. -/
@[simp] theorem decodeWord_assemble : decodeWord (assemble op a b c r) = decodeFields op a b c r := by
  simp [decodeWord]

/-- R84's conjunction on an assembled word: the row of R82 is all there is to ask. -/
@[simp] theorem legalFields_assemble :
    legalFields (fieldsOf (assemble op a b c r)) =
      rowAdmits { op := op.toNat, ta := a.toNat, tb := b.toNat, tc := c.toNat, tr := r.toNat, reserved := 0 } := by
  simp [fieldsOf_eq, legalFields]

end

/-- A word with no reserved bit set is assembled from its fields. -/
theorem assemble_fields {w : BitVec 32} (h : reservedField w = 0) :
    assemble (opField w) (aField w) (bField w) (cField w) (rField w) = w := by
  rw [reservedField_eq_zero_iff] at h
  apply BitVec.eq_of_toNat_eq
  rw [toNat_assemble, toNat_opField, toNat_aField, toNat_bField, toNat_cField, toNat_rField]
  omega

/-! ## Type codes (R81) -/

@[simp] theorem typeOfCode_codeOfType (t : Ty) : typeOfCode (codeOfType t) = .ok t := by cases t <;> rfl

@[simp] theorem elemOfType_ty (et : Elem) : elemOfType et.ty = .ok et := by cases et <;> rfl

theorem codeOfType_of_typeOfCode {c : BitVec 4} {t : Ty} (h : typeOfCode c = .ok t) : codeOfType t = c := by
  apply BitVec.eq_of_toNat_eq
  unfold typeOfCode at h
  split at h <;> cases h <;> simp [codeOfType, *]

@[simp] theorem isT6_codeOfType (t : Ty) : isT6 (codeOfType t).toNat = true := by cases t <;> rfl

@[simp] theorem isT32_codeOfType (t : Ty) : isT32 (codeOfType t).toNat = t.inT32 := by cases t <;> rfl

@[simp] theorem isT16or32_codeOfType (t : Ty) : isT16or32 (codeOfType t).toNat = t.inT16or32 := by cases t <;> rfl

@[simp] theorem isElem_codeOfType_ty (et : Elem) : isElem (codeOfType et.ty).toNat = true := by cases et <;> rfl

@[simp] theorem codeWidth_codeOfType (t : Ty) : codeWidth (codeOfType t).toNat = t.width := by cases t <;> rfl

@[simp] theorem isUnused_zero : isUnused 0 = true := rfl

section
variable {c : BitVec 4}

/-- `T6` is the codes of the six types. -/
theorem isT6_iff : isT6 c.toNat = true ↔ ∃ t, codeOfType t = c := by
  constructor
  · intro h
    simp only [isT6, Bool.and_eq_true, decide_eq_true_eq] at h
    have hcode : c.toNat = 1 ∨ c.toNat = 2 ∨ c.toNat = 3 ∨ c.toNat = 4 ∨ c.toNat = 5 ∨ c.toNat = 6 := by omega
    rcases hcode with h1 | h2 | h3 | h4 | h5 | h6
    · exact ⟨.u16, BitVec.eq_of_toNat_eq h1.symm⟩
    · exact ⟨.s16, BitVec.eq_of_toNat_eq h2.symm⟩
    · exact ⟨.u32, BitVec.eq_of_toNat_eq h3.symm⟩
    · exact ⟨.s32, BitVec.eq_of_toNat_eq h4.symm⟩
    · exact ⟨.u64, BitVec.eq_of_toNat_eq h5.symm⟩
    · exact ⟨.s64, BitVec.eq_of_toNat_eq h6.symm⟩
  · rintro ⟨t, rfl⟩
    exact isT6_codeOfType t

theorem isT16or32_iff : isT16or32 c.toNat = true ↔ ∃ t : Ty, t.inT16or32 = true ∧ codeOfType t = c := by
  constructor
  · intro h
    have h6 : isT6 c.toNat = true := by
      simp only [isT16or32, isT6, Bool.and_eq_true, decide_eq_true_eq] at h ⊢
      omega
    obtain ⟨t, rfl⟩ := isT6_iff.1 h6
    exact ⟨t, by rwa [isT16or32_codeOfType] at h, rfl⟩
  · rintro ⟨t, ht, rfl⟩
    rwa [isT16or32_codeOfType]

theorem isT32_iff : isT32 c.toNat = true ↔ ∃ t : Ty, t.inT32 = true ∧ codeOfType t = c := by
  constructor
  · intro h
    have h6 : isT6 c.toNat = true := by
      simp only [isT32, isT6, Bool.and_eq_true, Bool.or_eq_true, beq_iff_eq, decide_eq_true_eq] at h ⊢
      omega
    obtain ⟨t, rfl⟩ := isT6_iff.1 h6
    exact ⟨t, by rwa [isT32_codeOfType] at h, rfl⟩
  · rintro ⟨t, ht, rfl⟩
    rwa [isT32_codeOfType]

theorem isElem_iff : isElem c.toNat = true ↔ ∃ et : Elem, codeOfType et.ty = c := by
  constructor
  · intro h
    simp only [isElem, Bool.or_eq_true, beq_iff_eq] at h
    rcases h with h1 | h2
    · exact ⟨.u16, BitVec.eq_of_toNat_eq h1.symm⟩
    · exact ⟨.s16, BitVec.eq_of_toNat_eq h2.symm⟩
  · rintro ⟨et, rfl⟩
    exact isElem_codeOfType_ty et

theorem isUnused_iff : isUnused c.toNat = true ↔ c = 0 := by
  rw [isUnused, beq_iff_eq, ← BitVec.toNat_inj]
  rfl

end

/-! ## The command of a form (R82) -/

/-- The command that has a form, where R82 admits the form. -/
def Instr.ofForm : Form → Option Instr
  | .div nt dt rt => divOf nt dt rt
  | .mul xt yt rt => mulOf xt yt rt
  | .mulw xt yt => mulwOf xt yt (mulwResult xt yt)
  | .muldiv xt yt zt rt => muldivOf xt yt zt rt
  | .lim xt rt => some (limOf xt rt)
  | .dsearch et => some (dsearchOf et)
  | .curve et => some (curveOf et)
  | .map et => some (mapOf et)
  | .mapg et => some (mapgOf et)
  | .savg et => some (savgOf et)
  | .deb => some .deb
  | .tstart => some .tstart
  | .telapsed => some .telapsed
  | .tisstopped => some .tisstopped
  | .tstop => some .tstop
  | .crc8 => some .crc8

/-- The decoder's tables hold the admitted forms, each with its own command. -/
theorem map_form_ofForm (f : Form) : (Instr.ofForm f).map Instr.form = if f.wf then some f else none := by
  cases f with
  | div nt dt rt => cases nt <;> cases dt <;> cases rt <;> rfl
  | mul xt yt rt => cases xt <;> cases yt <;> cases rt <;> rfl
  | mulw xt yt => cases xt <;> cases yt <;> rfl
  | muldiv xt yt zt rt => cases xt <;> cases yt <;> cases zt <;> cases rt <;> rfl
  | lim xt rt => cases xt <;> cases rt <;> rfl
  | dsearch et | curve et | map et | mapg et | savg et => cases et <;> rfl
  | deb | tstart | telapsed | tisstopped | tstop | crc8 => rfl

/-- Every command is found again from its form. -/
@[simp] theorem ofForm_form (i : Instr) : Instr.ofForm i.form = some i := by cases i <;> rfl

theorem ofForm_eq_some_iff {f : Form} {i : Instr} : Instr.ofForm f = some i ↔ i.form = f := by
  constructor
  · intro h
    have hform := map_form_ofForm f
    rw [h, Option.map_some] at hform
    split at hform
    · exact Option.some.inj hform
    · cases hform
  · rintro rfl
    exact ofForm_form i

theorem form_injective : Function.Injective Instr.form := fun i j h =>
  Option.some.inj (by rw [← ofForm_form i, h, ofForm_form])

theorem isSome_ofForm (f : Form) : (Instr.ofForm f).isSome = f.wf := by
  rw [← Option.isSome_map (f := Instr.form), map_form_ofForm]
  cases f.wf <;> rfl

theorem wf_iff_exists_form (f : Form) : f.wf = true ↔ ∃ i : Instr, i.form = f := by
  rw [← isSome_ofForm, Option.isSome_iff_exists]
  simp only [ofForm_eq_some_iff]

/-- MULW's table with the result type named: only the one R82 gives is admitted. -/
theorem mulwOf_eq (xt yt rt : Ty) :
    mulwOf xt yt rt = if rt = mulwResult xt yt then Instr.ofForm (.mulw xt yt) else none := by
  cases xt <;> cases yt <;> cases rt <;> rfl

/-! ## Decoding an encoded form -/

@[simp] theorem withUnused_zero (k : Except DecodeError Instr) : withUnused 0#4 k = k := rfl

@[simp] theorem admitted_some (i : Instr) : admitted (some i) = .ok i := rfl

/-- The decoder finds the command of an admitted form's word, and refuses any other form's word as not admitted. -/
theorem decodeWord_encodeForm (f : Form) : decodeWord (encodeForm f) = admitted (Instr.ofForm f) := by
  cases f <;> simp [encodeForm, decodeFields, decodeFields.elemOnly, decodeFields.noTypes, Instr.ofForm, Except.bind,
    Except.map]

theorem decodeWord_encode (i : Instr) : decodeWord (encode i) = .ok i := by
  rw [encode, decodeWord_encodeForm, ofForm_form, admitted_some]

/-! ## The word of a decoded command -/

theorem withUnused_eq_ok {c : BitVec 4} {k : Except DecodeError Instr} {i : Instr} :
    withUnused c k = .ok i ↔ c = 0 ∧ k = .ok i := by
  unfold withUnused
  split
  · next hc => exact ⟨fun h => ⟨hc, h⟩, And.right⟩
  · next hc => exact ⟨nofun, fun h => absurd h.1 hc⟩

theorem admitted_eq_ok {o : Option Instr} {i : Instr} : admitted o = .ok i ↔ o = some i := by
  cases o <;> simp [admitted]

/-- A needed type field holds a type's code. -/
theorem typeOfCode_bind_eq_ok {c : BitVec 4} {k : Ty → Except DecodeError Instr} {i : Instr} :
    (typeOfCode c).bind k = .ok i ↔ ∃ t, codeOfType t = c ∧ k t = .ok i := by
  constructor
  · intro h
    cases ht : typeOfCode c with
    | error e => rw [ht] at h; cases h
    | ok t => rw [ht] at h; exact ⟨t, codeOfType_of_typeOfCode ht, h⟩
  · rintro ⟨t, rfl, h⟩
    rwa [typeOfCode_codeOfType]

/-- The types with an element type are U16 and S16. -/
theorem elemOfType_map_eq_ok {t : Ty} {g : Elem → Instr} {i : Instr} :
    (elemOfType t).map g = .ok i ↔ ∃ et : Elem, et.ty = t ∧ g et = i := by
  constructor
  · intro h
    cases t with
    | u16 => exact ⟨.u16, rfl, Except.ok.inj h⟩
    | s16 => exact ⟨.s16, rfl, Except.ok.inj h⟩
    | u32 | s32 | u64 | s64 => cases h
  · rintro ⟨et, rfl, rfl⟩
    rw [elemOfType_ty]
    rfl

/-- One row of a table that is a chain of tests: the row's answer, or a later row's. -/
theorem of_row {α : Type} {row : Prop} [Decidable row] {answer later v : α} {P : Prop}
    (hrow : row → answer = v → P) (hlater : later = v → P) (h : (if row then answer else later) = v) : P := by
  split at h
  · next hr => exact hrow hr h
  · exact hlater h

section
variable {op : BitVec 8} {a b c r : BitVec 4} {i : Instr}

/-- The rows with an element type alone: `F` is the row's form and `g` its commands. -/
theorem exists_form_of_elemOnly {g : Elem → Instr} (F : Elem → Form)
    (hcommand : ∀ et, Instr.ofForm (F et) = some (g et))
    (hword : ∀ et, encodeForm (F et) = assemble op (codeOfType et.ty) 0 0 0)
    (h : decodeFields.elemOnly a b c r g = .ok i) :
    ∃ f, Instr.ofForm f = some i ∧ encodeForm f = assemble op a b c r := by
  simp only [decodeFields.elemOnly, withUnused_eq_ok, typeOfCode_bind_eq_ok, elemOfType_map_eq_ok] at h
  obtain ⟨rfl, rfl, rfl, _, rfl, et, rfl, rfl⟩ := h
  exact ⟨F et, hcommand et, hword et⟩

/-- The rows without a type. -/
theorem exists_form_of_noTypes {j : Instr} (F : Form) (hcommand : Instr.ofForm F = some j)
    (hword : encodeForm F = assemble op 0 0 0 0) (h : decodeFields.noTypes a b c r j = .ok i) :
    ∃ f, Instr.ofForm f = some i ∧ encodeForm f = assemble op a b c r := by
  simp only [decodeFields.noTypes, withUnused_eq_ok, Except.ok.injEq] at h
  obtain ⟨rfl, rfl, rfl, rfl, rfl⟩ := h
  exact ⟨F, hcommand, hword⟩

/-- Fields that decode to a command are those of a form of this command: the decoder's rows, one by one. -/
theorem exists_form_of_decodeFields (h : decodeFields op a b c r = .ok i) :
    ∃ f, Instr.ofForm f = some i ∧ encodeForm f = assemble op a b c r := by
  unfold decodeFields at h
  revert h
  refine of_row ?div (of_row ?mul (of_row ?mulw (of_row ?muldiv (of_row ?lim (of_row ?dsearch (of_row ?curve
    (of_row ?map (of_row ?mapg (of_row ?savg (of_row ?deb (of_row ?tstart (of_row ?telapsed (of_row ?tisstopped
    (of_row ?tstop (of_row ?crc8 ?unassigned)))))))))))))))
  case div =>
    rintro rfl h
    simp only [withUnused_eq_ok, typeOfCode_bind_eq_ok, admitted_eq_ok] at h
    obtain ⟨rfl, nt, rfl, dt, rfl, rt, rfl, hcommand⟩ := h
    exact ⟨.div nt dt rt, hcommand, rfl⟩
  case mul =>
    rintro rfl h
    simp only [withUnused_eq_ok, typeOfCode_bind_eq_ok, admitted_eq_ok] at h
    obtain ⟨rfl, xt, rfl, yt, rfl, rt, rfl, hcommand⟩ := h
    exact ⟨.mul xt yt rt, hcommand, rfl⟩
  case mulw =>
    rintro rfl h
    simp only [withUnused_eq_ok, typeOfCode_bind_eq_ok, admitted_eq_ok, mulwOf_eq, Option.ite_none_right_eq_some] at h
    obtain ⟨rfl, xt, rfl, yt, rfl, _, rfl, rfl, hcommand⟩ := h
    exact ⟨.mulw xt yt, hcommand, rfl⟩
  case muldiv =>
    rintro rfl h
    simp only [typeOfCode_bind_eq_ok, admitted_eq_ok] at h
    obtain ⟨xt, rfl, yt, rfl, zt, rfl, rt, rfl, hcommand⟩ := h
    exact ⟨.muldiv xt yt zt rt, hcommand, rfl⟩
  case lim =>
    rintro rfl h
    simp only [withUnused_eq_ok, typeOfCode_bind_eq_ok, Except.ok.injEq] at h
    obtain ⟨rfl, rfl, xt, rfl, rt, rfl, rfl⟩ := h
    exact ⟨.lim xt rt, rfl, rfl⟩
  case dsearch => rintro rfl; exact exists_form_of_elemOnly .dsearch (fun _ => rfl) (fun _ => rfl)
  case curve => rintro rfl; exact exists_form_of_elemOnly .curve (fun _ => rfl) (fun _ => rfl)
  case map => rintro rfl; exact exists_form_of_elemOnly .map (fun _ => rfl) (fun _ => rfl)
  case mapg => rintro rfl; exact exists_form_of_elemOnly .mapg (fun _ => rfl) (fun _ => rfl)
  case savg => rintro rfl; exact exists_form_of_elemOnly .savg (fun _ => rfl) (fun _ => rfl)
  case deb => rintro rfl; exact exists_form_of_noTypes .deb rfl rfl
  case tstart => rintro rfl; exact exists_form_of_noTypes .tstart rfl rfl
  case telapsed => rintro rfl; exact exists_form_of_noTypes .telapsed rfl rfl
  case tisstopped => rintro rfl; exact exists_form_of_noTypes .tisstopped rfl rfl
  case tstop => rintro rfl; exact exists_form_of_noTypes .tstop rfl rfl
  case crc8 => rintro rfl; exact exists_form_of_noTypes .crc8 rfl rfl
  case unassigned => rintro ⟨⟩

end

theorem reservedField_eq_zero_of_decodeWord {w : BitVec 32} {i : Instr} (h : decodeWord w = .ok i) :
    reservedField w = 0 := by
  by_contra hset
  rw [decodeWord, if_neg hset] at h
  cases h

theorem encode_of_decodeWord {w : BitVec 32} {i : Instr} (h : decodeWord w = .ok i) : encode i = w := by
  have hreserved := reservedField_eq_zero_of_decodeWord h
  rw [← assemble_fields hreserved, decodeWord_assemble] at h
  obtain ⟨f, hcommand, hword⟩ := exists_form_of_decodeFields h
  rw [encode, ofForm_eq_some_iff.1 hcommand, hword, assemble_fields hreserved]

theorem decodeWord_eq_ok_iff (w : BitVec 32) (i : Instr) : decodeWord w = .ok i ↔ encode i = w := by
  constructor
  · exact encode_of_decodeWord
  · rintro rfl
    exact decodeWord_encode i

/-! ## Legal words (R84) -/

theorem legal_eq_true_iff (w : BitVec 32) : legal w = true ↔ ∃ i, encode i = w := by
  simp only [← decodeWord_eq_ok_iff]
  unfold legal
  cases decodeWord w <;> simp

theorem toNat_codeOfType_mulwResult (xt yt : Ty) :
    (codeOfType (mulwResult xt yt)).toNat =
      if (codeOfType xt).toNat = 3 ∧ (codeOfType yt).toNat = 3 then 5 else 6 := by
  cases xt <;> cases yt <;> rfl

/-- On the word of a form, R84's conjunction is R82's row for the form. -/
theorem legalFields_encodeForm (f : Form) : legalFields (fieldsOf (encodeForm f)) = f.wf := by
  cases f <;> simp [encodeForm, rowAdmits, Form.wf, toNat_codeOfType_mulwResult]

/-- On the word of a form, the decoder's answer is R82's row for the form. -/
theorem legal_encodeForm (f : Form) : legal (encodeForm f) = f.wf := by
  rw [legal, decodeWord_encodeForm, ← isSome_ofForm]
  cases Instr.ofForm f <;> rfl

section
variable {op : BitVec 8} {a b c r : BitVec 4}

/-- Fields that a row of R82 admits are those of a form: the rows, one by one. -/
theorem exists_form_of_rowAdmits {reserved : Nat}
    (h : rowAdmits { op := op.toNat, ta := a.toNat, tb := b.toNat, tc := c.toNat, tr := r.toNat, reserved } = true) :
    ∃ f, encodeForm f = assemble op a b c r := by
  dsimp only [rowAdmits] at h
  revert h
  refine of_row ?div (of_row ?mul (of_row ?mulw (of_row ?muldiv (of_row ?lim (of_row ?elemOnly
    (of_row ?noTypes ?unassigned))))))
  case div =>
    intro hop h
    obtain rfl : op = 0x01 := BitVec.eq_of_toNat_eq hop
    simp only [Bool.and_eq_true, isT6_iff, isT16or32_iff, isUnused_iff] at h
    obtain ⟨⟨⟨⟨⟨nt, rfl⟩, dt, -, rfl⟩, rfl⟩, rt, -, rfl⟩, -⟩ := h
    exact ⟨.div nt dt rt, rfl⟩
  case mul =>
    intro hop h
    obtain rfl : op = 0x02 := BitVec.eq_of_toNat_eq hop
    simp only [Bool.and_eq_true, isT6_iff, isUnused_iff] at h
    obtain ⟨⟨⟨⟨⟨xt, rfl⟩, yt, rfl⟩, rfl⟩, rt, rfl⟩, -⟩ := h
    exact ⟨.mul xt yt rt, rfl⟩
  case mulw =>
    intro hop h
    obtain rfl : op = 0x03 := BitVec.eq_of_toNat_eq hop
    simp only [Bool.and_eq_true, isT32_iff, isUnused_iff, beq_iff_eq] at h
    obtain ⟨⟨⟨⟨xt, -, rfl⟩, yt, -, rfl⟩, rfl⟩, hr⟩ := h
    rw [← toNat_codeOfType_mulwResult] at hr
    obtain rfl := BitVec.eq_of_toNat_eq hr
    exact ⟨.mulw xt yt, rfl⟩
  case muldiv =>
    intro hop h
    obtain rfl : op = 0x04 := BitVec.eq_of_toNat_eq hop
    simp only [Bool.and_eq_true, isT32_iff, isT16or32_iff] at h
    obtain ⟨⟨⟨⟨xt, -, rfl⟩, yt, -, rfl⟩, zt, -, rfl⟩, rt, -, rfl⟩ := h
    exact ⟨.muldiv xt yt zt rt, rfl⟩
  case lim =>
    intro hop h
    obtain rfl : op = 0x05 := BitVec.eq_of_toNat_eq hop
    simp only [Bool.and_eq_true, isT6_iff, isUnused_iff] at h
    obtain ⟨⟨⟨⟨xt, rfl⟩, rfl⟩, rfl⟩, rt, rfl⟩ := h
    exact ⟨.lim xt rt, rfl⟩
  case elemOnly =>
    intro hop h
    simp only [Bool.and_eq_true, isElem_iff, isUnused_iff] at h
    obtain ⟨⟨⟨⟨et, rfl⟩, rfl⟩, rfl⟩, rfl⟩ := h
    rcases hop with hop | hop | hop | hop | hop
    · exact ⟨.dsearch et, by rw [show op = 0x10 from BitVec.eq_of_toNat_eq hop]; rfl⟩
    · exact ⟨.curve et, by rw [show op = 0x11 from BitVec.eq_of_toNat_eq hop]; rfl⟩
    · exact ⟨.map et, by rw [show op = 0x12 from BitVec.eq_of_toNat_eq hop]; rfl⟩
    · exact ⟨.mapg et, by rw [show op = 0x13 from BitVec.eq_of_toNat_eq hop]; rfl⟩
    · exact ⟨.savg et, by rw [show op = 0x20 from BitVec.eq_of_toNat_eq hop]; rfl⟩
  case noTypes =>
    intro hop h
    simp only [Bool.and_eq_true, isUnused_iff] at h
    obtain ⟨⟨⟨rfl, rfl⟩, rfl⟩, rfl⟩ := h
    rcases hop with hop | hop | hop | hop | hop | hop
    · exact ⟨.deb, by rw [show op = 0x21 from BitVec.eq_of_toNat_eq hop]; rfl⟩
    · exact ⟨.tstart, by rw [show op = 0x30 from BitVec.eq_of_toNat_eq hop]; rfl⟩
    · exact ⟨.telapsed, by rw [show op = 0x31 from BitVec.eq_of_toNat_eq hop]; rfl⟩
    · exact ⟨.tisstopped, by rw [show op = 0x32 from BitVec.eq_of_toNat_eq hop]; rfl⟩
    · exact ⟨.tstop, by rw [show op = 0x33 from BitVec.eq_of_toNat_eq hop]; rfl⟩
    · exact ⟨.crc8, by rw [show op = 0x40 from BitVec.eq_of_toNat_eq hop]; rfl⟩
  case unassigned => rintro ⟨⟩

end

theorem exists_form_of_legal {w : BitVec 32} (h : legal w = true) : ∃ f, encodeForm f = w := by
  obtain ⟨i, hi⟩ := (legal_eq_true_iff w).1 h
  exact ⟨i.form, hi⟩

theorem exists_form_of_legalFields {w : BitVec 32} (h : legalFields (fieldsOf w) = true) :
    ∃ f, encodeForm f = w := by
  rw [fieldsOf_eq, legalFields, Bool.and_eq_true, beq_iff_eq] at h
  obtain ⟨hreserved, hrow⟩ := h
  rw [← assemble_fields (BitVec.eq_of_toNat_eq hreserved)]
  exact exists_form_of_rowAdmits hrow

/-- A word of a form is judged by the form's row on both sides, and every other word is refused on both. -/
theorem legal_eq_legalFields (w : BitVec 32) : legal w = legalFields (fieldsOf w) := by
  by_cases hform : ∃ f, encodeForm f = w
  · obtain ⟨f, rfl⟩ := hform
    rw [legal_encodeForm, legalFields_encodeForm]
  · rw [Bool.eq_false_iff.2 fun h => hform (exists_form_of_legal h),
      Bool.eq_false_iff.2 fun h => hform (exists_form_of_legalFields h)]

/-! ## Words refused by name (R87) -/

theorem decodeWord_of_reserved_ne_zero {w : BitVec 32} (h : reservedField w ≠ 0) :
    decodeWord w = .error .reservedBits := by
  rw [decodeWord, if_neg h]

/-- OP is looked at before the type fields: a code that is none of R83's sixteen is refused whatever they hold. -/
theorem decodeFields_of_unassigned {op : BitVec 8} (a b c r : BitVec 4)
    (h : op.toNat ∉
      [0x01, 0x02, 0x03, 0x04, 0x05, 0x10, 0x11, 0x12, 0x13, 0x20, 0x21, 0x30, 0x31, 0x32, 0x33, 0x40]) :
    decodeFields op a b c r = .error .unassignedOp := by
  simp only [List.mem_cons, List.not_mem_nil, or_false, not_or] at h
  simp [decodeFields, ← BitVec.toNat_inj, h]

end Sys2Proof

namespace Sys2Proof.Proofs

open Machine

/-- Settles O1: decoding inverts encoding form by form, and a decoded word is assembled from its command's form. -/
theorem decodeExactlyTheEncodedWord : Obligations.DecodeExactlyTheEncodedWord := by
  unfold Obligations.DecodeExactlyTheEncodedWord
  exact decodeWord_eq_ok_iff

/-- Settles O2: the decoder and R84's conjunction agree on every word, and an accepted write sets ERR by `legal`. -/
theorem legalExactlyWhenAdmitted : Obligations.LegalExactlyWhenAdmitted := by
  unfold Obligations.LegalExactlyWhenAdmitted
  refine ⟨legal_eq_legalFields, legal_eq_true_iff, fun s w hidle hillegal => ?_⟩
  simp [writeReg, hidle, hillegal]

/-- Settles O3: `Instr.ofForm` is a partial inverse of `Instr.form`, and is defined exactly on the admitted forms. -/
theorem admittedFormsAreTheCommands : Obligations.AdmittedFormsAreTheCommands := by
  unfold Obligations.AdmittedFormsAreTheCommands
  exact ⟨wf_iff_exists_form, fun _ _ h => form_injective h⟩

/-- Settles O5: the reserved bits are looked at first, then OP. -/
theorem illegalWordsRejectedByName : Obligations.IllegalWordsRejectedByName := by
  unfold Obligations.IllegalWordsRejectedByName
  refine fun w => ⟨fun hset => ?_, fun hclear hop => ?_⟩
  · refine decodeWord_of_reserved_ne_zero fun hreserved => ?_
    exact absurd ((reservedField_eq_zero_iff w).1 hreserved) (Nat.not_lt.2 hset)
  · rw [← toNat_opField] at hop
    rw [decodeWord, if_pos ((reservedField_eq_zero_iff w).2 hclear)]
    exact decodeFields_of_unassigned _ _ _ _ hop

/-- Settles O4: each word is its command's encoding. -/
theorem sampleWordsDecode : Obligations.SampleWordsDecode := by
  unfold Obligations.SampleWordsDecode
  simp only [decodeWord_eq_ok_iff]
  decide

end Sys2Proof.Proofs
end

section
/-! PROOFS. Division (40_division R100 to R106): what clamping gives, a command that makes no port access, the value of
DIV by the cases of its rule, and the loop invariant of the restoring long division. -/

namespace Sys2Proof

theorem Ty.min_nonpos (t : Ty) : t.min ≤ 0 := by cases t <;> decide

theorem Ty.min_le_max (t : Ty) : t.min ≤ t.max := by cases t <;> decide

/-- The result types whose range ends below 2^(W(NT)-1) (R104): the narrower ones, and the signed one of NT's width. -/
theorem Ty.max_lt_two_pow_iff (nt rt : Ty) :
    rt.max < 2 ^ (nt.width - 1) ↔ rt.width < nt.width ∨ (rt.width = nt.width ∧ rt.signed = true) := by
  cases nt <;> cases rt <;> decide

/-- A type of at most 32 bits has no value above the saturation ceiling of R106. -/
theorem Ty.max_le_of_width_le {t : Ty} (h : t.width ≤ 32) : t.max ≤ 0xFFFFFFFF := by
  cases t with
  | u16 | s16 | u32 | s32 => decide
  | u64 | s64 => exact absurd h (by decide)

end Sys2Proof

namespace Sys2Proof.Machine

/-! ## Clamping (R11, R103) -/

theorem nearest_clamp (t : Ty) (v : Int) : Nearest t v (clamp v t) := by
  have hrange := t.min_le_max
  refine ⟨fun h => ?_, fun h => ?_, fun hmin hmax => ?_⟩
  · rw [clamp, min_eq_right (by omega), max_eq_left h.le]
  · rw [clamp, min_eq_left h.le, max_eq_right hrange]
  · rw [clamp, min_eq_right hmax, max_eq_right hmin]

theorem clamp_of_max_lt {t : Ty} {v : Int} (h : t.max < v) : clamp v t = t.max := (nearest_clamp t v).2.1 h

theorem clamp_of_mem {t : Ty} {v : Int} (hmin : t.min ≤ v) (hmax : v ≤ t.max) : clamp v t = v :=
  (nearest_clamp t v).2.2 hmin hmax

/-- A ceiling that no value of the type exceeds makes no difference to the clamped value. -/
theorem clamp_min_of_max_le {t : Ty} {m : Int} (h : t.max ≤ m) (v : Int) : clamp (min v m) t = clamp v t := by
  rw [clamp, clamp, min_comm v, ← min_assoc, min_eq_left h]

/-! ## A command without port accesses -/

/-- A program that has reached its result completes the command, unless the turn has no step left. -/
theorem run_pure_granted {g : Option Nat} (hg : g ≠ some 0) (r : Int) (d : List Access) (s : State) :
    (Prog.pure r).run g d s = .next (Completed s s.mem r) := by
  match g with
  | none => rfl
  | some 0 => exact absurd rfl hg
  | some (k + 1) => rfl

theorem exec_of_formProg_pure {i : Instr} {s : State} {r : Int} (hprog : formProg i.form s = .pure r)
    (hg : s.grant ≠ some 0) : exec i s = .next (Completed s s.mem r) := by
  rw [exec_eq_runCommand, hprog, runCommand, run_pure_granted hg]

theorem exec_div {i : Instr} {nt dt rt : Ty} {s : State} (hform : i.form = .div nt dt rt) (hg : s.grant ≠ some 0) :
    exec i s = .next (Completed s s.mem (divide s.params nt dt rt (val s.aL nt) (val s.bL dt))) :=
  exec_of_formProg_pure (by rw [hform]; rfl) hg

/-! ## The value of DIV (R101 to R104) -/

section

variable (p : Config.Params) (nt dt rt : Ty)

theorem divide_zero_u64_u32 : divide p .u64 .u32 rt 0 0 = 1 := by simp [divide]

variable {nt dt} in
theorem divide_zero_of_nonneg {x : Int} (hx : 0 ≤ x) (hodd : ¬ (nt = .u64 ∧ dt = .u32 ∧ x = 0)) :
    divide p nt dt rt x 0 = rt.max := by
  rw [divide, if_pos rfl, if_neg hodd, if_pos hx]

theorem divide_zero_of_neg {x : Int} (hx : x < 0) : divide p nt dt rt x 0 = rt.min := by
  rw [divide, if_pos rfl, if_neg fun hodd => hx.ne hodd.2.2, if_neg (not_le.2 hx)]

theorem divide_of_ne_zero (x : Int) {y : Int} (hy : y ≠ 0) :
    divide p nt dt rt x y =
      if p.divNegovfMax = true ∧ nt.signed = true ∧ x = nt.min ∧ y = -1 ∧ rt.signed = false ∧ rt.width = nt.width
      then rt.max
      else clamp (x.tdiv y) rt := by
  simp only [divide, if_neg hy, Bool.not_eq_true, tdiv]

variable {nt} in
/-- The negation overflow (R104): the exact quotient 2^(W(NT)-1) clamped, but for the parameter's four variants. -/
theorem divide_min_neg_one (hnt : nt.signed = true) :
    divide p nt dt rt nt.min (-1) =
      if p.divNegovfMax = true ∧ rt.signed = false ∧ rt.width = nt.width then rt.max
      else clamp (2 ^ (nt.width - 1)) rt := by
  have hquotient : nt.min.tdiv (-1) = 2 ^ (nt.width - 1) := by simp [Ty.min_of_signed hnt]
  rw [divide_of_ne_zero p nt dt rt nt.min (by decide), hquotient]
  simp only [hnt, true_and]

end

/-- Truncation toward zero by sign and magnitude (00_scope R13). -/
theorem tdiv_eq_sign_mul_natAbs_div (x y : Int) : x.tdiv y = x.sign * y.sign * ((x.natAbs / y.natAbs : Nat) : Int) := by
  by_cases hsmall : x.natAbs < y.natAbs
  · rw [Nat.div_eq_of_lt hsmall, Nat.cast_zero, mul_zero, ← Int.natAbs_eq_zero, Int.natAbs_tdiv]
    exact Nat.div_eq_of_lt hsmall
  · calc x.tdiv y = (x.tdiv y).sign * ((x.tdiv y).natAbs : Int) := (Int.sign_mul_natAbs _).symm
      _ = x.sign * y.sign * ((x.natAbs / y.natAbs : Nat) : Int) := by
        rw [Int.sign_tdiv, if_neg hsmall, Int.natAbs_tdiv]; rfl

/-! ## The long division (R106) -/

/-- The loop's invariant: with the remainder below the divisor, what is left to divide is the remainder followed by the
`k` bits of `lo` not yet taken. -/
theorem longDivideLoop_eq {y : Nat} (lo k : Nat) :
    ∀ {r : Nat} (q : Nat), r < y → longDivideLoop y lo k r q = q * 2 ^ k + (r * 2 ^ k + lo % 2 ^ k) / y := by
  induction k with
  | zero =>
    intro r q hr
    simp [longDivideLoop, Nat.mod_one, Nat.div_eq_of_lt hr]
  | succ k ih =>
    intro r q hr
    have hshift : r * 2 ^ (k + 1) + lo % 2 ^ (k + 1) = (2 * r + lo / 2 ^ k % 2) * 2 ^ k + lo % 2 ^ k := by
      rw [Nat.mod_pow_succ]; ring
    have htwice : 2 * r + lo / 2 ^ k % 2 < 2 * y := by omega
    rw [longDivideLoop, hshift]
    generalize 2 * r + lo / 2 ^ k % 2 = t at htwice ⊢
    split
    next hle =>
      have hsub : t * 2 ^ k + lo % 2 ^ k = (t - y) * 2 ^ k + lo % 2 ^ k + y * 2 ^ k := by
        rw [Nat.sub_mul]; have := Nat.mul_le_mul_right (2 ^ k) hle; omega
      rw [ih _ (by omega), hsub, Nat.add_mul_div_left _ _ (by omega)]; ring
    next hlt => rw [ih _ (by omega)]; ring

/-- The source's long division is the true quotient up to its saturation ceiling. -/
theorem longDivide_eq_min (x : Nat) {y : Nat} (hy : 0 < y) : longDivide x y = min (x / y) 0xFFFFFFFF := by
  have hhigh : y ≤ x / 2 ^ 32 ↔ 2 ^ 32 ≤ x / y := by
    rw [Nat.le_div_iff_mul_le (by decide), Nat.le_div_iff_mul_le hy, mul_comm]
  rw [longDivide]
  split
  next hover =>
    have := hhigh.1 hover
    exact (min_eq_right (by omega)).symm
  next hfits =>
    have := mt hhigh.2 hfits
    rw [longDivideLoop_eq _ _ _ (not_le.1 hfits), Nat.mod_mod, zero_mul, zero_add, Nat.div_add_mod',
      min_eq_left (by omega)]

theorem val_u64 (r : BitVec 64) : val r .u64 = r.toNat := by
  rw [val_of_unsigned rfl, Ty.width, BitVec.setWidth_eq]

theorem val_u32 (r : BitVec 64) : val r .u32 = (low32 r).toNat := val_of_unsigned rfl r

/-- DIV of u64 by u32 is the floor of the quotient, clamped (R106): R104's parameter has no unsigned variant. -/
theorem divide_u64_u32 (p : Config.Params) (rt : Ty) (x : Nat) {y : Nat} (hy : y ≠ 0) :
    divide p .u64 .u32 rt x y = clamp ((x / y : Nat) : Int) rt := by
  rw [divide_of_ne_zero p _ _ rt _ (by exact_mod_cast hy), if_neg fun h => absurd h.2.1 (by decide), Int.ofNat_tdiv]

/-- R82 admits only result types of at most 32 bits for DIV of a 64-bit numerator. -/
theorem width_le_of_div_u64 {i : Instr} {dt rt : Ty} (hform : i.form = .div .u64 dt rt) : rt.width ≤ 32 := by
  have hwf : (Form.div .u64 dt rt).wf = true := (wf_iff_exists_form _).2 ⟨i, hform⟩
  simp only [Form.wf, Ty.inT16or32, Bool.and_eq_true, decide_eq_true_eq] at hwf
  exact hwf.1.2

end Sys2Proof.Machine

namespace Sys2Proof.Proofs

open Machine

/-- Settles O22: DIV's value by the cases of its rule, the quotient said by sign and magnitude and its clamp as the
nearest value. -/
theorem divisionResult : Obligations.DivisionResult := by
  unfold Obligations.DivisionResult
  intro i nt dt rt s hform hg
  refine ⟨_, exec_div hform hg, ?_, ?_, ?_, ?_⟩
  · rintro hy ⟨rfl, rfl, hx⟩
    rw [hx, hy, divide_zero_u64_u32]
  · intro hy hodd hx
    rw [hy, divide_zero_of_nonneg _ _ hx hodd]
  · intro hy hx
    rw [hy, divide_zero_of_neg _ _ _ _ hx]
  · intro hy hparam
    rw [divide_of_ne_zero _ _ _ _ _ hy, if_neg hparam, ← tdiv_eq_sign_mul_natAbs_div]
    exact nearest_clamp _ _

/-- Settles O23: the exact quotient 2^(W(NT)-1) against the range of each result type, by R104's three cases. -/
theorem divisionNegationOverflow : Obligations.DivisionNegationOverflow := by
  unfold Obligations.DivisionNegationOverflow
  intro i nt dt rt s hform hg hnt _ hx hy
  rw [exec_div hform hg, hx, hy, divide_min_neg_one _ _ _ hnt]
  by_cases hbelow : rt.max < 2 ^ (nt.width - 1)
  · rw [if_pos hbelow, clamp_of_max_lt hbelow, ite_self]
  · rw [if_neg hbelow, clamp_of_mem (rt.min_nonpos.trans (by positivity)) (not_lt.1 hbelow)]
    rw [Ty.max_lt_two_pow_iff, not_or, not_and, Bool.not_eq_true] at hbelow
    obtain ⟨hnarrow, hsigned⟩ := hbelow
    by_cases hwide : nt.width < rt.width
    · rw [if_pos hwide, if_neg fun hparam => hwide.ne' hparam.2.2]
    · have hwidth : rt.width = nt.width := by omega
      simp only [hwidth, hsigned hwidth, lt_irrefl, if_false, and_true]

/-- Settles O24: the loop's invariant gives the long division's value, and its saturation ceiling is no value above the
range of a result type. -/
theorem longDivisionGivesTheQuotient : Obligations.LongDivisionGivesTheQuotient := by
  unfold Obligations.LongDivisionGivesTheQuotient
  refine ⟨fun x y _ hy _ => longDivide_eq_min x hy, fun i rt s hform hg hy => ?_⟩
  rw [val_u32] at hy
  have hy' : (low32 s.bL).toNat ≠ 0 := by exact_mod_cast hy
  refine ⟨_, exec_div hform hg, ?_⟩
  rw [val_u64, val_u32, divide_u64_u32 _ _ _ hy']
  refine ⟨nearest_clamp _ _, ?_⟩
  rw [longDivide_eq_min _ (Nat.pos_of_ne_zero hy'), Nat.cast_min,
    ← clamp_min_of_max_le (Ty.max_le_of_width_le (width_le_of_div_u64 hform))]
  exact nearest_clamp _ _

end Sys2Proof.Proofs
end

section
/-! PROOFS. Multiplication (41_multiplication R120 to R126): the range of an operand, the value of MUL by the cases of its
parameter and with its operands exchanged, and the range of MULW's product. -/

namespace Sys2Proof

/-- The greatest magnitude of a value of the type. -/
def Ty.magnitude (t : Ty) : Int := if t.signed then -t.min else t.max

theorem Ty.abs_le_magnitude {t : Ty} {v : Int} (hmin : t.min ≤ v) (hmax : v ≤ t.max) : |v| ≤ t.magnitude := by
  rw [abs_le, Ty.magnitude]
  cases h : t.signed with
  | false =>
    rw [Ty.min_of_unsigned h] at hmin
    simp only [Bool.false_eq_true, if_false]
    omega
  | true =>
    rw [Ty.min_of_signed h] at hmin ⊢
    rw [Ty.max_of_signed h] at hmax
    simp only [if_true]
    omega

/-- R126's reason: the magnitudes of two 32-bit types multiply to a value of the result type, 2^32 - 1 with itself to less
than 2^64, and 2^31 with either of them to less than 2^63. -/
theorem Ty.magnitude_mul_le {xt yt : Ty} (hx : xt.inT32 = true) (hy : yt.inT32 = true) :
    xt.magnitude * yt.magnitude ≤ (mulwResult xt yt).max := by
  revert hx hy
  cases xt <;> cases yt <;> decide

theorem mulwResult_of_not_unsigned {xt yt : Ty} (h : ¬ (xt = .u32 ∧ yt = .u32)) : mulwResult xt yt = .s64 := if_neg h

/-- Two operands of MULW multiply to a value of its result type (R126). -/
theorem mul_mem_mulwResult {xt yt : Ty} {x y : Int} (hxt : xt.inT32 = true) (hyt : yt.inT32 = true)
    (hx : xt.min ≤ x ∧ x ≤ xt.max) (hy : yt.min ≤ y ∧ y ≤ yt.max) :
    (mulwResult xt yt).min ≤ x * y ∧ x * y ≤ (mulwResult xt yt).max := by
  have hxabs : |x| ≤ xt.magnitude := Ty.abs_le_magnitude hx.1 hx.2
  have hyabs : |y| ≤ yt.magnitude := Ty.abs_le_magnitude hy.1 hy.2
  have habs : |x * y| ≤ (mulwResult xt yt).max :=
    calc |x * y| = |x| * |y| := abs_mul x y
      _ ≤ xt.magnitude * yt.magnitude := mul_le_mul hxabs hyabs (abs_nonneg y) ((abs_nonneg x).trans hxabs)
      _ ≤ (mulwResult xt yt).max := Ty.magnitude_mul_le hxt hyt
  obtain ⟨hlow, hhigh⟩ := abs_le.1 habs
  refine ⟨?_, hhigh⟩
  by_cases hunsigned : xt = .u32 ∧ yt = .u32
  · obtain ⟨rfl, rfl⟩ := hunsigned
    exact mul_nonneg hx.1 hy.1
  · rw [mulwResult_of_not_unsigned hunsigned] at hlow ⊢
    exact le_trans (by decide) hlow

end Sys2Proof

namespace Sys2Proof.Machine

/-! ## The operands (R11, R12) -/

/-- What a type reads from a register is a value of the type. -/
theorem val_mem (r : BitVec 64) (t : Ty) : t.min ≤ val r t ∧ val r t ≤ t.max := by
  cases h : t.signed with
  | false =>
    rw [val_of_unsigned h, Ty.min_of_unsigned h, Ty.max_of_unsigned h]
    have hlt : ((r.setWidth t.width).toNat : Int) < 2 ^ t.width := by exact_mod_cast (r.setWidth t.width).isLt
    omega
  | true =>
    rw [val_of_signed h, Ty.min_of_signed h, Ty.max_of_signed h]
    exact ⟨BitVec.le_toInt _, Int.le_sub_one_of_lt BitVec.toInt_lt⟩

/-! ## The value of MUL (R120 to R122) -/

section

variable (p : Config.Params) (xt yt rt : Ty) (x y : Int)

/-- A signed operand beside an unsigned one, and negative (R122). -/
theorem mixed_negative_iff :
    (xt.signed ≠ yt.signed ∧ (if xt.signed then x else y) < 0) ↔
      (xt.signed = true ∧ yt.signed = false ∧ x < 0) ∨ (xt.signed = false ∧ yt.signed = true ∧ y < 0) := by
  cases xt.signed <;> cases yt.signed <;> simp

theorem multiply_eq :
    multiply p xt yt rt x y =
      if p.mulMixedNegZero = true ∧ rt.signed = true ∧
          ((xt.signed = true ∧ yt.signed = false ∧ x < 0) ∨ (xt.signed = false ∧ yt.signed = true ∧ y < 0))
      then 0 else clamp (x * y) rt := by
  simp only [multiply, mixed_negative_iff]

/-- The parameter's case asks for a negative signed operand on either side, so it is the same for exchanged operands. -/
theorem multiply_comm : multiply p yt xt rt y x = multiply p xt yt rt x y := by
  rw [multiply_eq, multiply_eq, mul_comm y x]
  simp only [and_left_comm, or_comm]

end

/-! ## The two commands -/

section

variable {i : Instr} {xt yt rt : Ty} {s : State}

theorem exec_mul (hform : i.form = .mul xt yt rt) (hg : s.grant ≠ some 0) :
    exec i s = .next (Completed s s.mem (multiply s.params xt yt rt (val s.aL xt) (val s.bL yt))) :=
  exec_of_formProg_pure (by rw [hform]; rfl) hg

theorem exec_mulw (hform : i.form = .mulw xt yt) (hg : s.grant ≠ some 0) :
    exec i s = .next (Completed s s.mem (val s.aL xt * val s.bL yt)) :=
  exec_of_formProg_pure (by rw [hform]; rfl) hg

/-- R82 admits only operand types of 32 bits for MULW. -/
theorem inT32_of_mulw (hform : i.form = .mulw xt yt) : xt.inT32 = true ∧ yt.inT32 = true := by
  have hwf : (Form.mulw xt yt).wf = true := (wf_iff_exists_form _).2 ⟨i, hform⟩
  rwa [Form.wf, Bool.and_eq_true] at hwf

end

end Sys2Proof.Machine

namespace Sys2Proof.Proofs

open Machine

/-- Settles O25: MUL's value by the parameter's case, and the clamp of the product as the nearest value. -/
theorem multiplicationResult : Obligations.MultiplicationResult := by
  unfold Obligations.MultiplicationResult
  intro i xt yt rt s hform hg
  refine ⟨_, exec_mul hform hg, fun hzero => ?_, fun hclamp => ?_⟩
  · rw [multiply_eq, if_pos hzero]
  · rw [multiply_eq, if_neg hclamp]
    exact nearest_clamp _ _

/-- Settles O26: both runs complete with MUL's value, which is the same for exchanged operands. -/
theorem multiplicationCommutes : Obligations.MultiplicationCommutes := by
  unfold Obligations.MultiplicationCommutes
  intro i j xt yt rt s hi hj hg
  refine ⟨_, exec_mul hi hg, ?_⟩
  rw [← multiply_comm]
  exact exec_mul hj hg

/-- Settles O27: the product is a value of the result type, so it is read back from its encoding. -/
theorem wideningMultiplicationIsExact : Obligations.WideningMultiplicationIsExact := by
  unfold Obligations.WideningMultiplicationIsExact
  intro i xt yt s hform hg
  obtain ⟨hxt, hyt⟩ := inT32_of_mulw hform
  obtain ⟨hmin, hmax⟩ := mul_mem_mulwResult hxt hyt (val_mem s.aL xt) (val_mem s.bL yt)
  exact ⟨_, exec_mulw hform hg, rfl, val_enc64 hmin hmax⟩

end Sys2Proof.Proofs
end

section
/-! PROOFS. Multiply-divide and the type limiter (42_muldiv_limit R140 to R146): the range of the product, one clamp for
two, the value of MULDIV by the cases of its rule. -/

namespace Sys2Proof

theorem Ty.one_le_max (t : Ty) : 1 ≤ t.max := by cases t <;> decide

/-- The range of MULDIV's result type is inside the range of `RT32` (R143). -/
theorem Ty.range_to32 {t : Ty} (h : t.inT16or32 = true) : t.to32.min ≤ t.min ∧ t.max ≤ t.to32.max := by
  revert h
  cases t <;> decide

end Sys2Proof

namespace Sys2Proof.Machine

/-! ## Clamping (R11) -/

theorem clamp_of_max_le {t : Ty} {v : Int} (h : t.max ≤ v) : clamp v t = t.max := by
  rw [clamp, min_eq_left h, max_eq_right t.min_le_max]

theorem clamp_of_le_min {t : Ty} {v : Int} (h : v ≤ t.min) : clamp v t = t.min := by
  rw [clamp, max_eq_left ((min_le_right _ _).trans h)]

/-- Clamping to a range and then to one inside it is one clamp (R143). -/
theorem clamp_clamp {t u : Ty} (hmin : u.min ≤ t.min) (hmax : t.max ≤ u.max) (v : Int) :
    clamp (clamp v u) t = clamp v t := by
  have hrange : t.min ≤ t.max := t.min_le_max
  simp only [clamp]
  omega

/-! ## The product (R141) -/

section

variable {xt yt : Ty} (hxt : xt.inT32 = true) (hyt : yt.inT32 = true)

include hxt hyt

theorem productType_eq_mulwResult : productType xt yt = mulwResult xt yt := by
  revert hxt hyt
  cases xt <;> cases yt <;> decide

theorem productType_eq_u64_iff : productType xt yt = .u64 ↔ xt = .u32 ∧ yt = .u32 := by
  rw [productType_eq_mulwResult hxt hyt, mulwResult]
  split <;> simp [*]

/-- The magnitude of the product is at most max(s64), and that of min(s64) is one more (R143). -/
theorem mul_ne_min_productType {x y : Int} (hx : xt.min ≤ x ∧ x ≤ xt.max) (hy : yt.min ≤ y ∧ y ≤ yt.max)
    (hsigned : (productType xt yt).signed = true) : x * y ≠ (productType xt yt).min := by
  have hxabs : |x| ≤ xt.magnitude := Ty.abs_le_magnitude hx.1 hx.2
  have hyabs : |y| ≤ yt.magnitude := Ty.abs_le_magnitude hy.1 hy.2
  have habs : |x * y| ≤ (productType xt yt).max :=
    calc |x * y| = |x| * |y| := abs_mul x y
      _ ≤ xt.magnitude * yt.magnitude := mul_le_mul hxabs hyabs (abs_nonneg y) ((abs_nonneg x).trans hxabs)
      _ ≤ (productType xt yt).max := productType_eq_mulwResult hxt hyt ▸ Ty.magnitude_mul_le hxt hyt
  rw [Ty.max_of_signed hsigned] at habs
  rw [Ty.min_of_signed hsigned]
  have := (abs_le.1 habs).1
  omega

end

/-! ## The value of MULDIV (R142, R143) -/

section

variable (p : Config.Params) {xt yt zt rt : Ty} {x y : Int}

/-- R143: P_DIV_NEGOVF_MAX asks for a product of min(s64), and the two clamps are one. -/
theorem mulDivide_of_ne_zero {z : Int} (hxt : xt.inT32 = true) (hyt : yt.inT32 = true) (hrt : rt.inT16or32 = true)
    (hx : xt.min ≤ x ∧ x ≤ xt.max) (hy : yt.min ≤ y ∧ y ≤ yt.max) (hz : z ≠ 0) :
    mulDivide p xt yt zt rt x y z = clamp ((x * y).tdiv z) rt := by
  obtain ⟨hmin, hmax⟩ := Ty.range_to32 hrt
  rw [mulDivide, divide_of_ne_zero _ _ _ _ _ hz, if_neg, limit, clamp_clamp hmin hmax]
  rintro ⟨_, hsigned, hoverflow, _⟩
  exact mul_ne_min_productType hxt hyt hx hy hsigned hoverflow

theorem mulDivide_zero_u32 (hprod : x * y = 0) : mulDivide p .u32 .u32 .u32 rt x y 0 = 1 := by
  have hquotient : divide p (productType .u32 .u32) .u32 rt.to32 0 0 = 1 := divide_zero_u64_u32 p rt.to32
  rw [mulDivide, hprod, hquotient, limit, clamp_of_mem (rt.min_nonpos.trans (by decide)) rt.one_le_max]

theorem mulDivide_zero_of_nonneg (hxt : xt.inT32 = true) (hyt : yt.inT32 = true) (hrt : rt.inT16or32 = true)
    (hodd : ¬ (xt = .u32 ∧ yt = .u32 ∧ zt = .u32 ∧ x * y = 0)) (hprod : 0 ≤ x * y) :
    mulDivide p xt yt zt rt x y 0 = rt.max := by
  obtain ⟨_, hmax⟩ := Ty.range_to32 hrt
  rw [mulDivide, divide_zero_of_nonneg _ _ hprod, limit, clamp_of_max_le hmax]
  rwa [productType_eq_u64_iff hxt hyt, and_assoc]

theorem mulDivide_zero_of_neg (hrt : rt.inT16or32 = true) (hprod : x * y < 0) :
    mulDivide p xt yt zt rt x y 0 = rt.min := by
  obtain ⟨hmin, _⟩ := Ty.range_to32 hrt
  rw [mulDivide, divide_zero_of_neg _ _ _ _ hprod, limit, clamp_of_le_min hmin]

end

/-! ## The two commands -/

section

variable {i : Instr} {xt yt zt rt : Ty} {s : State}

theorem exec_muldiv (hform : i.form = .muldiv xt yt zt rt) (hg : s.grant ≠ some 0) :
    exec i s =
      .next (Completed s s.mem (mulDivide s.params xt yt zt rt (val s.aL xt) (val s.bL yt) (val s.cL zt))) :=
  exec_of_formProg_pure (by rw [hform]; rfl) hg

theorem exec_lim (hform : i.form = .lim xt rt) (hg : s.grant ≠ some 0) :
    exec i s = .next (Completed s s.mem (clamp (val s.aL xt) rt)) :=
  exec_of_formProg_pure (by rw [hform]; rfl) hg

/-- R82 admits only multiplicands of 32 bits and results of at most 32 bits for MULDIV. -/
theorem types_of_muldiv (hform : i.form = .muldiv xt yt zt rt) :
    xt.inT32 = true ∧ yt.inT32 = true ∧ rt.inT16or32 = true := by
  have hwf : (Form.muldiv xt yt zt rt).wf = true := (wf_iff_exists_form _).2 ⟨i, hform⟩
  simp only [Form.wf, Bool.and_eq_true] at hwf
  obtain ⟨⟨⟨hxt, hyt⟩, _⟩, hrt⟩ := hwf
  exact ⟨hxt, hyt, hrt⟩

end

end Sys2Proof.Machine

namespace Sys2Proof.Proofs

open Machine

/-- Settles O28: MULDIV's value by the cases of its rule, the clamp of the quotient as the nearest value. -/
theorem multiplyDivideResult : Obligations.MultiplyDivideResult := by
  unfold Obligations.MultiplyDivideResult
  intro i xt yt zt rt s hform hg
  obtain ⟨hxt, hyt, hrt⟩ := types_of_muldiv hform
  refine ⟨_, exec_muldiv hform hg, ?_, ?_, ?_, ?_⟩
  · intro hz
    rw [mulDivide_of_ne_zero _ hxt hyt hrt (val_mem _ _) (val_mem _ _) hz]
    exact nearest_clamp _ _
  · rintro hz ⟨rfl, rfl, rfl, hprod⟩
    rw [hz, mulDivide_zero_u32 _ hprod]
  · intro hz hodd hprod
    rw [hz, mulDivide_zero_of_nonneg _ hxt hyt hrt hodd hprod]
  · intro hz hprod
    rw [hz, mulDivide_zero_of_neg _ hrt hprod]

/-- Settles O29: the clamp as the nearest value, and an operand read in the result type is in its range. -/
theorem limiterResult : Obligations.LimiterResult := by
  unfold Obligations.LimiterResult
  intro i xt rt s hform hg
  refine ⟨_, exec_lim hform hg, nearest_clamp _ _, ?_⟩
  rintro rfl
  obtain ⟨hmin, hmax⟩ := val_mem s.aL xt
  exact clamp_of_mem hmin hmax

end Sys2Proof.Proofs
end

section
/-! PROOFS. The arithmetic of interpolation (43_search_interp R171, R186 to R189): a share of a difference lies between 0
and the difference under either rounding, so CURVE's MULDIV never clamps and a blend lies between its two values. -/

namespace Sys2Proof.Machine

/-! ## A share of a difference -/

/-- The share `t / w` of `a`, rounded down. -/
theorem ediv_share_between (a : Int) {t w : Int} (ht : 0 ≤ t) (htw : t < w) :
    min 0 a ≤ a * t / w ∧ a * t / w ≤ max 0 a := by
  have hw : 0 < w := ht.trans_lt htw
  rcases le_total 0 a with ha | ha
  · rw [min_eq_left ha, max_eq_right ha]
    exact ⟨Int.ediv_nonneg (mul_nonneg ha ht) hw.le, Int.ediv_le_of_le_mul hw (mul_le_mul_of_nonneg_left htw.le ha)⟩
  · rw [min_eq_right ha, max_eq_left ha]
    refine ⟨Int.le_ediv_of_mul_le hw (mul_le_mul_of_nonpos_left htw.le ha), Int.ediv_le_of_le_mul hw ?_⟩
    rw [zero_mul]
    exact mul_nonpos_of_nonpos_of_nonneg ha ht

/-- The same, truncated toward zero: for a negative difference it is the opposite difference's share rounded down. -/
theorem tdiv_share_between (a : Int) {t w : Int} (ht : 0 ≤ t) (htw : t < w) :
    min 0 a ≤ (a * t).tdiv w ∧ (a * t).tdiv w ≤ max 0 a := by
  rcases le_total 0 a with ha | ha
  · rw [Int.tdiv_eq_ediv_of_nonneg (mul_nonneg ha ht)]
    exact ediv_share_between a ht htw
  · have hneg : (a * t).tdiv w = -(-a * t / w) := by
      rw [← Int.tdiv_eq_ediv_of_nonneg (mul_nonneg (neg_nonneg.2 ha) ht), neg_mul, Int.neg_tdiv, neg_neg]
    have hshare := ediv_share_between (-a) ht htw
    rw [hneg]
    omega

/-! ## The curve's MULDIV (R171) -/

/-- The operands are s32 values, the divisor is not 0, and the quotient is no greater than the difference of the two y
values, so neither the division's cases nor its clamp act. -/
theorem mulDivide_share (p : Config.Params) {dy t w : Int} (hlow : -65535 ≤ dy) (hhigh : dy ≤ 65535) (ht : 0 ≤ t)
    (htw : t < w) (hw : w ≤ 65535) : mulDivide p .s32 .s32 .s32 .s32 dy t w = (dy * t).tdiv w := by
  have hmin : Ty.s32.min = -2147483648 := by decide
  have hmax : Ty.s32.max = 2147483647 := by decide
  have hshare := tdiv_share_between dy ht htw
  rw [mulDivide_of_ne_zero p rfl rfl rfl (by omega) (by omega) (by omega), clamp_of_mem (by omega) (by omega)]

/-! ## One blend (R186, R187) -/

theorem blendValue_eq_blendOf (p : Config.Params) (z0 z1 : Int) (r : Nat) :
    blendValue p z0 z1 r = blendOf p z0 z1 r := by
  unfold blendValue blendOf blendScale
  cases p.mapBlendRound with
  | shift => exact congrArg (z0 + ·) (Int.fdiv_eq_ediv_of_nonneg _ (by decide))
  | trunc => rfl

theorem blendOf_shift {p : Config.Params} (h : p.mapBlendRound = .shift) (z0 z1 : Int) (r : Nat) :
    blendOf p z0 z1 r = z0 + (z1 - z0) * (r : Int) / 32768 := by simp only [blendOf, h]

theorem blendOf_trunc {p : Config.Params} (h : p.mapBlendRound = .trunc) (z0 z1 : Int) (r : Nat) :
    blendOf p z0 z1 r = z0 + ((z1 - z0) * (r : Int)).tdiv 32768 := by simp only [blendOf, h]

/-- R189: a ratio is a share of 32768. -/
theorem blendOf_between (p : Config.Params) (z0 z1 : Int) {r : Nat} (hr : r < 32768) :
    min z0 z1 ≤ blendOf p z0 z1 r ∧ blendOf p z0 z1 r ≤ max z0 z1 := by
  have hr0 : (0 : Int) ≤ r := Int.natCast_nonneg r
  have hr1 : (r : Int) < 32768 := by exact_mod_cast hr
  cases h : p.mapBlendRound with
  | shift =>
    have hshare := ediv_share_between (z1 - z0) hr0 hr1
    rw [blendOf_shift h]
    omega
  | trunc =>
    have hshare := tdiv_share_between (z1 - z0) hr0 hr1
    rw [blendOf_trunc h]
    omega

end Sys2Proof.Machine

namespace Sys2Proof.Proofs

open Machine

/-- Settles O33: the MULDIV step is a truncated share of the difference of the two y values. -/
theorem curveStaysBetweenItsKnots : Obligations.CurveStaysBetweenItsKnots := by
  unfold Obligations.CurveStaysBetweenItsKnots
  intro p y0 y1 x x0 x1 _ hx0 hx1 hw hlow hhigh
  have ht : 0 ≤ x - x0 := sub_nonneg.2 hx0
  have htw : x - x0 < x1 - x0 := by omega
  have hshare := tdiv_share_between (y1 - y0) ht htw
  rw [mulDivide_share p hlow hhigh ht htw hw]
  refine ⟨rfl, by omega, by omega, ?_⟩
  rintro rfl
  simp

/-- Settles O38: the model's blend is R186's formula, whose term is a share of the difference, and a floor under SHIFT. -/
theorem blendStaysBetweenItsValues : Obligations.BlendStaysBetweenItsValues := by
  unfold Obligations.BlendStaysBetweenItsValues
  intro p z0 z1 r hr
  obtain ⟨hlow, hhigh⟩ := blendOf_between p z0 z1 hr
  rw [blendValue_eq_blendOf]
  refine ⟨hlow, hhigh, rfl, fun hshift => ?_⟩
  rw [blendOf_shift hshift]
  omega

end Sys2Proof.Proofs
end

section
/-! PROOFS. Distribution search, DSEARCH (43_search_interp R160 to R164): the index and ratio of a search bracket the query
and fit the axis, what reading a distribution record makes of a command, and the packing of the result. -/

namespace Sys2Proof.Machine

/-! ## The last knot at or below the query (R161, R163) -/

theorem lastAtMost_eq_none {x : Int} {d : List Int} (h : lastAtMost x d = none) :
    ∀ k, k < d.length → x < d.getD k 0 := by
  induction d with
  | nil => intro k hk; exact absurd hk (Nat.not_lt_zero k)
  | cons e d ih =>
    simp only [lastAtMost] at h
    split at h
    next => cases h
    next hrest =>
      split at h
      next => cases h
      next hhead =>
        intro k hk
        cases k with
        | zero => exact not_le.1 hhead
        | succ k => exact ih hrest k (Nat.lt_of_succ_lt_succ hk)

theorem lastAtMost_eq_some {x : Int} {d : List Int} :
    ∀ {i : Nat}, lastAtMost x d = some i →
      i < d.length ∧ d.getD i 0 ≤ x ∧ ∀ k, i < k → k < d.length → x < d.getD k 0 := by
  induction d with
  | nil => intro i h; cases h
  | cons e d ih =>
    intro i h
    simp only [lastAtMost] at h
    split at h
    next j hrest =>
      cases h
      obtain ⟨hlen, hle, hlast⟩ := ih hrest
      refine ⟨Nat.succ_lt_succ hlen, hle, fun k hk hkd => ?_⟩
      cases k with
      | zero => exact absurd hk (Nat.not_lt_zero _)
      | succ k => exact hlast k (Nat.lt_of_succ_lt_succ hk) (Nat.lt_of_succ_lt_succ hkd)
    next hrest =>
      split at h
      next hhead =>
        cases h
        refine ⟨Nat.succ_pos _, hhead, fun k hk hkd => ?_⟩
        cases k with
        | zero => exact absurd hk (lt_irrefl 0)
        | succ k => exact lastAtMost_eq_none hrest k (Nat.lt_of_succ_lt_succ hkd)
      next => cases h

/-- With a first knot at or below the query and a last one above it, the scan finds a knot and its next is above. -/
theorem lastAtMost_between {x : Int} {d : List Int} (hfirst : d.getD 0 0 ≤ x) (hlast : x < d.getD (d.length - 1) 0) :
    ∃ i, lastAtMost x d = some i ∧ i + 1 < d.length ∧ d.getD i 0 ≤ x ∧ x < d.getD (i + 1) 0 := by
  have hlen : d ≠ [] := by rintro rfl; exact absurd hlast (not_lt.2 hfirst)
  have hpos : 0 < d.length := List.length_pos_iff.2 hlen
  cases h : lastAtMost x d with
  | none => exact absurd (lastAtMost_eq_none h 0 hpos) (not_lt.2 hfirst)
  | some i =>
    obtain ⟨hi, hle, habove⟩ := lastAtMost_eq_some h
    have hne : i ≠ d.length - 1 := by rintro rfl; exact absurd hlast (not_lt.2 hle)
    exact ⟨i, rfl, by omega, hle, habove (i + 1) (by omega) (by omega)⟩

/-! ## The ratio (R162) -/

/-- The ratio is the floor its rule names, and below 32768 since the query is below the next knot. -/
theorem ratio_between {x lo hi : Int} (hlo : lo ≤ x) (hhi : x < hi) :
    ratio x lo hi < 32768 ∧ (ratio x lo hi : Int) = (x - lo) * 32768 / (hi - lo) := by
  have hwidth : 0 < hi - lo := by omega
  have hnonneg : 0 ≤ (x - lo) * 32768 / (hi - lo) := Int.ediv_nonneg (by omega) hwidth.le
  have heq : (ratio x lo hi : Int) = (x - lo) * 32768 / (hi - lo) := by
    rw [ratio, Int.fdiv_eq_ediv_of_nonneg _ hwidth.le, Int.toNat_of_nonneg hnonneg]
  have hlt : (x - lo) * 32768 / (hi - lo) < 32768 := Int.ediv_lt_of_lt_mul hwidth (by omega)
  exact ⟨by omega, heq⟩

/-! ## The search (R160) -/

section

variable {x : Int} {d : List Int}

theorem search_of_le_first (h : x ≤ d.getD 0 0) : search x d = (0, 0) := by rw [search, if_pos h]

theorem search_of_last_le (hfirst : d.getD 0 0 < x) (hlast : d.getD (d.length - 1) 0 ≤ x) :
    search x d = (d.length - 1, 0) := by rw [search, if_neg (not_le.2 hfirst), if_pos hlast]

theorem search_of_between {i : Nat} (hfirst : d.getD 0 0 < x) (hlast : x < d.getD (d.length - 1) 0)
    (hi : lastAtMost x d = some i) : search x d = (i, ratio x (d.getD i 0) (d.getD (i + 1) 0)) := by
  rw [search, if_neg (not_le.2 hfirst), if_neg (not_le.2 hlast), hi, Option.getD_some]

variable (x d) in
theorem search_bracket : Bracket x d (search x d).1 (search x d).2 := by
  refine ⟨fun h => ?_, fun hfirst hlast => ?_, fun hfirst hlast => ?_⟩
  · rw [search_of_le_first h]; exact ⟨rfl, rfl⟩
  · rw [search_of_last_le hfirst hlast]; exact ⟨rfl, rfl⟩
  · obtain ⟨i, hi, hlen, hle, hlt⟩ := lastAtMost_between hfirst.le hlast
    obtain ⟨hratio, heq⟩ := ratio_between hle hlt
    rw [search_of_between hfirst hlast hi]
    exact ⟨hlen, hle, hlt, hratio, heq⟩

end

/-- What R188 asks of a packed index and ratio on an axis of `n` knots. -/
structure FitsAxis (n i r : Nat) : Prop where
  index_lt : i < n
  ratio_lt : r < 32768
  next_lt : r ≠ 0 → i + 1 < n

/-- R162: what brackets a query on an axis fits the axis. -/
theorem Bracket.fitsAxis {x : Int} {d : List Int} {i r : Nat} (h : Bracket x d i r) (hlen : 0 < d.length) :
    FitsAxis d.length i r := by
  obtain ⟨hbelow, habove, hbetween⟩ := h
  by_cases hfirst : x ≤ d.getD 0 0
  · obtain ⟨rfl, rfl⟩ := hbelow hfirst
    exact ⟨hlen, by decide, fun hr => absurd rfl hr⟩
  · by_cases hlast : d.getD (d.length - 1) 0 ≤ x
    · obtain ⟨rfl, rfl⟩ := habove (not_le.1 hfirst) hlast
      exact ⟨by omega, by decide, fun hr => absurd rfl hr⟩
    · obtain ⟨hnext, -, -, hr, -⟩ := hbetween (not_le.1 hfirst) (not_le.1 hlast)
      exact ⟨by omega, hr, fun _ => hnext⟩

/-! ## Tables and counts in memory -/

theorem length_tableElems (m : Memory) (a : Nat) (et : Elem) (n : Nat) : (tableElems m a et n).length = n := by
  simp [tableElems]

theorem countAt_lt (m : Memory) (a : Nat) : countAt m a < 65536 := by
  have hlt : readLe m a 2 < 256 ^ 2 := readLe_lt 2 m a
  rw [countAt, loadMem, BitVec.toNat_ofNat]
  simp only [Size.bytes]
  omega

/-- What a search returns on an axis fits the axis. -/
theorem fitsAxis_of_search {x : Int} {m : Memory} {a : Nat} {et : Elem} {n i r : Nat} (hn : 2 ≤ n)
    (h : search x (tableElems m a et n) = (i, r)) : FitsAxis n i r := by
  have hlen := length_tableElems m a et n
  have hfits := (search_bracket x (tableElems m a et n)).fitsAxis (by omega)
  rwa [h, hlen] at hfits

/-- Part of a readable table is readable. -/
theorem elemsReadable_part {s : State} {a n : Nat} (h : elemsReadable s a n) {b k len : Nat} (hb : b = a + 2 * k)
    (hlen : k + len ≤ n) : elemsReadable s b len := by
  intro j hj
  rw [hb, Nat.add_assoc, ← Nat.mul_add]
  exact h (k + j) (by omega)

/-! ## The end of an undisturbed command -/

theorem exec_of_eval_done {i : Instr} {s : State} {m : Memory} {r : Int} (hu : Undisturbed s = true)
    (h : (formProg i.form s).eval s.platform s.mem = .done r m) : exec i s = .next (Completed s m r) := by
  rw [exec_undisturbed i hu, h]
  rfl

theorem exec_of_eval_error {i : Instr} {s : State} {m : Memory} {e : ErrCode} (hu : Undisturbed s = true)
    (h : (formProg i.form s).eval s.platform s.mem = .error e m) : exec i s = .next (Errored s m e) := by
  rw [exec_undisturbed i hu, h]
  rfl

/-! ## Reading a distribution record (R160, R164, R170) -/

/-- How DSEARCH and CURVE begin: the checked distribution of the record at `d`, and what follows from its count and its
elements. -/
def withDistribution (d : Nat) (et : Elem) (f : Nat → List Int → Prog Int) : Prog Int :=
  (checkAlign d 2).bind fun _ =>
  (memRead d .b2).bind fun n =>
  (raiseIf (decide (n.toNat < 2)) .precond).bind fun _ =>
  (readElems (d + 2) et n.toNat 0).bind fun ds =>
  (checkDist ds).bind fun _ => f n.toNat ds

theorem dsearchProg_eq (et : Elem) (s : State) :
    dsearchProg et s = withDistribution (addrOf s.bL) et fun _ ds =>
      .pure (pack (search (val s.aL et.query) ds).1 (search (val s.aL et.query) ds).2) := rfl

theorem curveProg_eq (et : Elem) (s : State) :
    curveProg et s = withDistribution (addrOf s.bL) et fun n xs =>
      curveValue s.params et (val s.aL et.query) xs (addrOf s.bL + 2 + 2 * n) := rfl

theorem eval_checkDist {α : Type} (d : List Int) (f : Unit → Prog α) (g : List Region) (m : Memory) :
    ((checkDist d).bind f).eval g m =
      if 2 ≤ d.length ∧ nonDecreasing d = true then (f ()).eval g m else .error .precond m := by
  rw [checkDist, eval_raiseIf]
  by_cases hlen : d.length < 2
  · simp [hlen, not_le.2 hlen]
  · simp only [hlen, not_lt.1 hlen, decide_false, Bool.false_or, true_and]
    cases nonDecreasing d <;> rfl

/-- A readable distribution with at least 2 knots that do not decrease passes, and any other ends the command. -/
theorem eval_withDistribution {s : State} {d : Nat} (et : Elem) (f : Nat → List Int → Prog Int) (halign : d % 2 = 0)
    (hread : elemsReadable s d (countAt s.mem d + 1)) :
    (withDistribution d et f).eval s.platform s.mem =
      if 2 ≤ countAt s.mem d ∧ nonDecreasing (tableElems s.mem (d + 2) et (countAt s.mem d)) = true then
        (f (countAt s.mem d) (tableElems s.mem (d + 2) et (countAt s.mem d))).eval s.platform s.mem
      else .error .precond s.mem := by
  have hfirst : readable s d .b2 = true := hread 0 (by omega)
  have helems : elemsReadable s (d + 2) (countAt s.mem d) := elemsReadable_part hread (k := 1) rfl (by omega)
  rw [withDistribution, checkAlign_bind_aligned halign, memRead_bind, eval_read _ _ hfirst, ← countAt, eval_raiseIf]
  by_cases hcount : countAt s.mem d < 2
  · rw [decide_eq_true hcount, if_pos rfl, if_neg fun h => absurd h.1 (not_le.2 hcount)]
  · rw [decide_eq_false hcount, if_neg Bool.false_ne_true, eval_table _ _ helems, eval_checkDist, length_tableElems]

/-! ## A normal end, taken back to what was read (R181) -/

section

variable {α β : Type} {g : List Region} {m m' : Memory} {r : α}

theorem eval_bind_eq_done (p : Prog β) {f : β → Prog α} :
    ∀ {m : Memory}, (p.bind f).eval g m = .done r m' →
      ∃ v m₁, p.eval g m = .done v m₁ ∧ (f v).eval g m₁ = .done r m' := by
  induction p with
  | pure v => intro m h; exact ⟨v, m, rfl, h⟩
  | fail e => intro m h; cases h
  | read a n k ih =>
    intro m h
    simp only [Prog.eval, Prog.bind_read] at h ⊢
    split_ifs at h ⊢
    exact ih _ h
  | write a n v k ih =>
    intro m h
    simp only [Prog.eval, Prog.bind_write] at h ⊢
    split_ifs at h ⊢
    exact ih h

theorem eval_read_eq_done {a : Nat} {n : Size} {k : BitVec 32 → Prog α} (h : (Prog.read a n k).eval g m = .done r m') :
    (k (loadMem m a n)).eval g m = .done r m' := by
  simp only [Prog.eval] at h
  split_ifs at h
  exact h

theorem eval_raiseIf_eq_done {c : Bool} {e : ErrCode} {f : Unit → Prog α}
    (h : ((raiseIf c e).bind f).eval g m = .done r m') : (f ()).eval g m = .done r m' := by
  rw [eval_raiseIf] at h
  split_ifs at h
  exact h

end

theorem eval_readElems_eq_done {g : List Region} {a : Nat} {et : Elem} {m m' : Memory} (n : Nat) :
    ∀ {k : Nat} {ds : List Int}, (readElems a et n k).eval g m = .done ds m' →
      m' = m ∧ ds = (List.range n).map fun j => elemAt m a et (k + j) := by
  induction n with
  | zero => intro k ds h; cases h; exact ⟨rfl, rfl⟩
  | succ n ih =>
    intro k ds h
    simp only [readElems, elem, memRead_bind, Prog.bind_read, Prog.bind_pure_left] at h
    obtain ⟨rest, m₁, hrest, hds⟩ := eval_bind_eq_done _ (eval_read_eq_done h)
    cases hds
    obtain ⟨rfl, rfl⟩ := ih hrest
    refine ⟨rfl, ?_⟩
    rw [List.range_succ_eq_map]
    simp [elemAt, Function.comp_def, Nat.add_assoc, Nat.add_comm 1]

theorem eval_withDistribution_eq_done {g : List Region} {m m' : Memory} {d : Nat} {et : Elem}
    {f : Nat → List Int → Prog Int} {r : Int} (h : (withDistribution d et f).eval g m = .done r m') :
    (f (countAt m d) (tableElems m (d + 2) et (countAt m d))).eval g m = .done r m' := by
  have htable := eval_raiseIf_eq_done (eval_read_eq_done (eval_raiseIf_eq_done h))
  obtain ⟨ds, m₁, helems, hcheck⟩ := eval_bind_eq_done _ htable
  obtain ⟨rfl, rfl⟩ := eval_readElems_eq_done _ helems
  have hrest := eval_raiseIf_eq_done hcheck
  simp only [Nat.zero_add] at hrest
  exact hrest

/-! ## The packed result (R160, R162) -/

theorem low16_eq_toNat_mod (r : BitVec 64) : low16 r = r.toNat % 65536 := by simp [low16]

theorem high16_eq_toNat_div (r : BitVec 64) : high16 r = r.toNat / 65536 % 65536 := by
  simp [high16, Nat.shiftRight_eq_div_pow]

theorem toNat_enc64_pack {i r : Nat} (hi : i < 65536) (hr : r < 65536) : (enc64 (pack i r)).toNat = i * 65536 + r := by
  have h := toNat_enc64 (pack i r)
  simp only [pack] at h ⊢
  omega

theorem low16_enc64_pack {i r : Nat} (hi : i < 65536) (hr : r < 65536) : low16 (enc64 (pack i r)) = r := by
  rw [low16_eq_toNat_mod, toNat_enc64_pack hi hr]
  omega

theorem high16_enc64_pack {i r : Nat} (hi : i < 65536) (hr : r < 65536) : high16 (enc64 (pack i r)) = i := by
  rw [high16_eq_toNat_div, toNat_enc64_pack hi hr]
  omega

/-- A DSEARCH that ends normally leaves in RES the packed search, whatever was readable besides. -/
theorem res_of_dsearch_done {i : Instr} {et : Elem} {s t : State} (hform : i.form = .dsearch et)
    (hu : Undisturbed s = true) (hexec : exec i s = .next t) (herr : t.err = .none) {j r : Nat}
    (hsearch : search (val s.aL et.query) (tableElems s.mem (addrOf s.bL + 2) et (countAt s.mem (addrOf s.bL))) = (j, r)) :
    t.res = enc64 (pack j r) := by
  obtain ⟨_, _, heval, rfl⟩ := eval_done_of_err_none hu hexec herr
  rw [hform, formProg, dsearchProg_eq] at heval
  have hdone := eval_withDistribution_eq_done heval
  rw [hsearch] at hdone
  cases hdone
  rfl

end Sys2Proof.Machine

namespace Sys2Proof.Proofs

open Machine

/-- Settles O30: the packed index and ratio are those of the search, which bracket the query. -/
theorem distributionSearchResult : Obligations.DistributionSearchResult := by
  unfold Obligations.DistributionSearchResult
  intro i et s hform hu halign hread hcount hsorted
  refine ⟨_, _, exec_of_eval_done hu ?_, (fitsAxis_of_search hcount Prod.mk.eta.symm).ratio_lt, search_bracket _ _⟩
  rw [hform, formProg, dsearchProg_eq, eval_withDistribution _ _ halign hread, if_pos ⟨hcount, hsorted⟩]
  rfl

end Sys2Proof.Proofs
end

section
/-! PROOFS. Curve interpolation, CURVE (43_search_interp R170 to R172): the elements' ranges, under which the MULDIV step is
exact, and the value of a readable curve. -/

namespace Sys2Proof

/-- Two values of an element type differ by at most 65535 (R171). -/
theorem Elem.range_le (et : Elem) : et.ty.max - et.ty.min ≤ 65535 := by cases et <;> decide

end Sys2Proof

namespace Sys2Proof.Machine

/-! ## The elements -/

theorem elemVal_mem (et : Elem) (v : BitVec 32) : et.ty.min ≤ elemVal et v ∧ elemVal et v ≤ et.ty.max := by
  cases et with
  | u16 =>
    have hlt : ((v.setWidth 16).toNat : Int) < 2 ^ 16 := by exact_mod_cast (v.setWidth 16).isLt
    exact ⟨Int.natCast_nonneg _, Int.le_sub_one_of_lt hlt⟩
  | s16 => exact ⟨BitVec.le_toInt _, Int.le_sub_one_of_lt BitVec.toInt_lt⟩

theorem elemAt_sub_le (m : Memory) (a : Nat) (et : Elem) (j k : Nat) : elemAt m a et j - elemAt m a et k ≤ 65535 := by
  have hj := elemVal_mem et (loadMem m (a + 2 * j) .b2)
  have hk := elemVal_mem et (loadMem m (a + 2 * k) .b2)
  have hrange := et.range_le
  simp only [elemAt]
  omega

theorem tableElems_getD (m : Memory) (a : Nat) (et : Elem) {n k : Nat} (hk : k < n) :
    (tableElems m a et n).getD k 0 = elemAt m a et k := by
  simp [tableElems, elemAt, hk]

/-! ## The value of a curve (R170) -/

/-- R170's value at the knot `j` that a search for `x` gives: the y value there at or outside the ends of an axis of `n`
knots, else the line from there to the next knot. -/
def curveOf (n : Nat) (x : Int) (xk yk : Nat → Int) (j : Nat) : Int :=
  if x ≤ xk 0 ∨ xk (n - 1) ≤ x then yk j
  else yk j + ((yk (j + 1) - yk j) * (x - xk j)).tdiv (xk (j + 1) - xk j)

section

variable {n : Nat} {x : Int} {xk : Nat → Int} (yk : Nat → Int) (j : Nat)

theorem curveOf_outside (h : x ≤ xk 0 ∨ xk (n - 1) ≤ x) : curveOf n x xk yk j = yk j := if_pos h

theorem curveOf_between (hlow : xk 0 < x) (hhigh : x < xk (n - 1)) :
    curveOf n x xk yk j = yk j + ((yk (j + 1) - yk j) * (x - xk j)).tdiv (xk (j + 1) - xk j) :=
  if_neg (not_or.2 ⟨not_le.2 hlow, not_le.2 hhigh⟩)

end

/-- A readable curve gives that value: between two knots the operands are in R171's ranges. -/
theorem eval_curveValue {s : State} {et : Elem} {xb yb n : Nat} {xs : List Int} (x : Int) (hlen : xs.length = n)
    (hxs : ∀ k, k < n → xs.getD k 0 = elemAt s.mem xb et k) (hn : 0 < n) (hread : elemsReadable s yb n) :
    (curveValue s.params et x xs yb).eval s.platform s.mem =
      .done (curveOf n x (elemAt s.mem xb et) (elemAt s.mem yb et) (search x xs).1) s.mem := by
  have helem : ∀ k, k < n → (elem yb k et).eval s.platform s.mem = .done (elemAt s.mem yb et k) s.mem :=
    fun k hk => eval_elem s.mem (hread k hk)
  have hend : xs.getD (xs.length - 1) 0 = elemAt s.mem xb et (n - 1) := by rw [hlen, hxs _ (by omega)]
  rw [curveValue, curveOf, ← hxs 0 hn, ← hend]
  by_cases hfirst : x ≤ xs.getD 0 0
  · rw [if_pos hfirst, if_pos (.inl hfirst), search_of_le_first hfirst, helem 0 hn]
  · rw [if_neg hfirst]
    by_cases hlast : xs.getD (xs.length - 1) 0 ≤ x
    · rw [if_pos hlast, if_pos (.inr hlast), search_of_last_le (not_le.1 hfirst) hlast, helem _ (by omega)]
    · obtain ⟨j, hj, hnext, hle, hlt⟩ := lastAtMost_between (not_le.1 hfirst).le (not_le.1 hlast)
      rw [hlen] at hnext
      have hj' : j < n := Nat.lt_of_succ_lt hnext
      rw [if_neg hlast, if_neg (not_or.2 ⟨hfirst, hlast⟩), search_of_between (not_le.1 hfirst) (not_le.1 hlast) hj, hj,
        Option.getD_some, eval_bind_done _ _ (helem j hj'), eval_bind_done _ _ (helem (j + 1) hnext), eval_pure]
      rw [hxs j hj'] at hle ⊢
      rw [hxs (j + 1) hnext] at hlt ⊢
      have hrise := elemAt_sub_le s.mem yb et (j + 1) j
      have hfall := elemAt_sub_le s.mem yb et j (j + 1)
      have hwidth := elemAt_sub_le s.mem xb et (j + 1) j
      rw [mulDivide_share _ (by omega) hrise (by omega) (by omega) hwidth]

end Sys2Proof.Machine

namespace Sys2Proof.Proofs

open Machine

/-- Settles O32: the curve's value at the knot the search gives. -/
theorem curveResult : Obligations.CurveResult := by
  unfold Obligations.CurveResult
  intro i et s hform hu halign hread hcount hsorted
  have hxs : elemsReadable s (addrOf s.bL) (countAt s.mem (addrOf s.bL) + 1) := fun k hk => hread k (by omega)
  have hys : elemsReadable s (addrOf s.bL + 2 + 2 * countAt s.mem (addrOf s.bL)) (countAt s.mem (addrOf s.bL)) :=
    elemsReadable_part hread (k := 1 + countAt s.mem (addrOf s.bL)) (by omega) (by omega)
  have hvalue := eval_curveValue (val s.aL et.query) (length_tableElems s.mem (addrOf s.bL + 2) et _)
    (fun k => tableElems_getD _ _ _) (by omega) hys
  refine ⟨_, _, _, exec_of_eval_done hu (Eq.trans ?_ hvalue), search_bracket _ _, curveOf_outside _ _,
    curveOf_between _ _⟩
  rw [hform, formProg, curveProg_eq, eval_withDistribution _ _ halign hxs, if_pos ⟨hcount, hsorted⟩]

end Sys2Proof.Proofs
end

section
/-! PROOFS. Map interpolation, MAP and MAPG (43_search_interp R164, R180 to R190): the blend of a readable grid, what the
counts and the axes of a map make of a command, and MAP as two searches followed by MAPG. -/

namespace Sys2Proof.Machine

/-! ## The grid (R186) -/

/-- The grid holds its elements by rows. -/
theorem grid_index_lt {nx ny i j : Nat} (hi : i < nx) (hj : j < ny) : i * ny + j < nx * ny :=
  calc i * ny + j < i * ny + ny := Nat.add_lt_add_left hj _
    _ = (i + 1) * ny := (Nat.succ_mul i ny).symm
    _ ≤ nx * ny := Nat.mul_le_mul_right ny hi

/-- The blend along Y in a row of a readable grid: the next element is read only where R188 gives it. -/
theorem eval_rowBlend {s : State} {et : Elem} {g nx ny i iy ry : Nat} (hread : elemsReadable s g (nx * ny)) (hi : i < nx)
    (hy : FitsAxis ny iy ry) :
    (rowBlend s.params et g ny iy ry i).eval s.platform s.mem =
      .done (rowOf s.params (fun j => elemAt s.mem g et (i * ny + j)) iy ry) s.mem := by
  have helem : ∀ j, j < ny →
      (elem g (i * ny + j) et).eval s.platform s.mem = .done (elemAt s.mem g et (i * ny + j)) s.mem :=
    fun j hj => eval_elem s.mem (hread _ (grid_index_lt hi hj))
  rw [rowBlend, rowOf, eval_bind_done _ _ (helem iy hy.index_lt)]
  by_cases hry : ry = 0
  · rw [if_pos hry, if_pos hry, eval_pure]
  · rw [if_neg hry, if_neg hry, eval_bind_done _ _ (helem (iy + 1) (hy.next_lt hry)), eval_pure, blendValue_eq_blendOf]

theorem eval_blend {s : State} {et : Elem} {m nx ny ix rx iy ry : Nat}
    (hread : elemsReadable s (m + 4 + 2 * nx + 2 * ny) (nx * ny)) (hx : FitsAxis nx ix rx) (hy : FitsAxis ny iy ry) :
    (blend s.params et m nx ny ix rx iy ry).eval s.platform s.mem =
      .done (gridOf s.params (mapZ s.mem m et nx ny) ix rx iy ry) s.mem := by
  rw [blend, gridOf, eval_bind_done _ _ (eval_rowBlend hread hx.index_lt hy)]
  by_cases hrx : rx = 0
  · rw [if_pos hrx, if_pos hrx, eval_pure]
    rfl
  · rw [if_neg hrx, if_neg hrx, eval_bind_done _ _ (eval_rowBlend hread (hx.next_lt hrx) hy), eval_pure,
      blendValue_eq_blendOf]
    rfl

/-! ## Reading a map record (R180, R185) -/

/-- How MAP and MAPG begin: the counts of the record at `m`, each at least 2, and what follows from them. -/
def withMapCounts (m : Nat) (f : Nat → Nat → Prog Int) : Prog Int :=
  (checkAlign m 2).bind fun _ =>
  (memRead m .b2).bind fun nx =>
  (memRead (m + 2) .b2).bind fun ny =>
  (raiseIf (decide (nx.toNat < 2) || decide (ny.toNat < 2)) .precond).bind fun _ => f nx.toNat ny.toNat

/-- How MAP goes on: the two checked axes, and what follows from them. -/
def withMapAxes (m : Nat) (et : Elem) (nx ny : Nat) (f : List Int → List Int → Prog Int) : Prog Int :=
  (readElems (m + 4) et nx 0).bind fun xd =>
  (readElems (m + 4 + 2 * nx) et ny 0).bind fun yd =>
  (checkDist xd).bind fun _ =>
  (checkDist yd).bind fun _ => f xd yd

theorem mapProg_eq (et : Elem) (s : State) :
    mapProg et s = withMapCounts (addrOf s.cL) fun nx ny => withMapAxes (addrOf s.cL) et nx ny fun xd yd =>
      blend s.params et (addrOf s.cL) nx ny (search (val s.aL et.query) xd).1 (search (val s.aL et.query) xd).2
        (search (val s.bL et.query) yd).1 (search (val s.bL et.query) yd).2 := rfl

theorem mapgProg_eq (et : Elem) (s : State) :
    mapgProg et s = withMapCounts (addrOf s.cL) fun nx ny =>
      (raiseIf (badPacked nx ny (high16 s.aL) (low16 s.aL) (high16 s.bL) (low16 s.bL)) .precond).bind fun _ =>
        blend s.params et (addrOf s.cL) nx ny (high16 s.aL) (low16 s.aL) (high16 s.bL) (low16 s.bL) := rfl

theorem eval_withMapCounts {s : State} {m : Nat} (f : Nat → Nat → Prog Int) (halign : m % 2 = 0)
    (hread : elemsReadable s m 2) :
    (withMapCounts m f).eval s.platform s.mem =
      if 2 ≤ countAt s.mem m ∧ 2 ≤ countAt s.mem (m + 2) then
        (f (countAt s.mem m) (countAt s.mem (m + 2))).eval s.platform s.mem
      else .error .precond s.mem := by
  have hx : readable s m .b2 = true := hread 0 (by decide)
  have hy : readable s (m + 2) .b2 = true := hread 1 (by decide)
  rw [withMapCounts, checkAlign_bind_aligned halign, memRead_bind, eval_read _ _ hx, memRead_bind, eval_read _ _ hy,
    ← countAt, ← countAt, eval_raiseIf]
  by_cases hok : 2 ≤ countAt s.mem m ∧ 2 ≤ countAt s.mem (m + 2)
  · rw [if_pos hok, if_neg]
    simp only [Bool.or_eq_true, decide_eq_true_eq]
    omega
  · rw [if_neg hok, if_pos]
    simp only [Bool.or_eq_true, decide_eq_true_eq]
    omega

theorem eval_withMapAxes {s : State} {m nx ny : Nat} (et : Elem) (f : List Int → List Int → Prog Int) (hnx : 2 ≤ nx)
    (hny : 2 ≤ ny) (hread : elemsReadable s m (2 + nx + ny)) :
    (withMapAxes m et nx ny f).eval s.platform s.mem =
      if nonDecreasing (tableElems s.mem (m + 4) et nx) = true ∧
          nonDecreasing (tableElems s.mem (m + 4 + 2 * nx) et ny) = true then
        (f (tableElems s.mem (m + 4) et nx) (tableElems s.mem (m + 4 + 2 * nx) et ny)).eval s.platform s.mem
      else .error .precond s.mem := by
  have hx : elemsReadable s (m + 4) nx := elemsReadable_part hread (k := 2) rfl (by omega)
  have hy : elemsReadable s (m + 4 + 2 * nx) ny := elemsReadable_part hread (k := 2 + nx) (by omega) (by omega)
  rw [withMapAxes, eval_table _ _ hx, eval_table _ _ hy, eval_checkDist, eval_checkDist, length_tableElems,
    length_tableElems]
  simp only [hnx, hny, true_and, ite_and]

/-- R188's check is that both packed operands fit their axes. -/
theorem badPacked_eq_false_iff {nx ny ix rx iy ry : Nat} :
    badPacked nx ny ix rx iy ry = false ↔ FitsAxis nx ix rx ∧ FitsAxis ny iy ry := by
  simp only [badPacked, Bool.or_eq_false_iff, Bool.and_eq_false_iff, decide_eq_false_iff_not, bne_eq_false_iff_eq,
    beq_eq_false_iff_ne]
  constructor
  · rintro ⟨⟨⟨⟨⟨hrx, hry⟩, hix⟩, hiy⟩, hx⟩, hy⟩
    exact ⟨⟨by omega, by omega, by omega⟩, ⟨by omega, by omega, by omega⟩⟩
  · rintro ⟨⟨hix, hrx, hx⟩, ⟨hiy, hry, hy⟩⟩
    refine ⟨⟨⟨⟨⟨?_, ?_⟩, ?_⟩, ?_⟩, ?_⟩, ?_⟩ <;> omega

/-! ## The two commands on a readable map -/

/-- OPC holds the aligned address `m` of a readable map record with `nx` by `ny` knots, at least 2 on each axis. -/
structure ReadableMap (s : State) (m nx ny : Nat) : Prop where
  addr : m = addrOf s.cL
  countX : nx = countAt s.mem m
  countY : ny = countAt s.mem (m + 2)
  aligned : m % 2 = 0
  readable : elemsReadable s m (2 + nx + ny + nx * ny)
  two_le_x : 2 ≤ nx
  two_le_y : 2 ≤ ny

section

variable {i : Instr} {et : Elem} {s : State} {m nx ny : Nat}

theorem ReadableMap.grid (h : ReadableMap s m nx ny) : elemsReadable s (m + 4 + 2 * nx + 2 * ny) (nx * ny) :=
  elemsReadable_part h.readable (k := 2 + nx + ny) (by omega) le_rfl

theorem ReadableMap.eval_withMapCounts (h : ReadableMap s m nx ny) (f : Nat → Nat → Prog Int) :
    (withMapCounts (addrOf s.cL) f).eval s.platform s.mem = (f nx ny).eval s.platform s.mem := by
  obtain ⟨rfl, rfl, rfl, halign, hread, hnx, hny⟩ := h
  rw [Machine.eval_withMapCounts _ halign fun k hk => hread k (by omega), if_pos ⟨hnx, hny⟩]

/-- MAP blends at the indices and ratios of the two searches. -/
theorem exec_map (hform : i.form = .map et) (hu : Undisturbed s = true) (h : ReadableMap s m nx ny)
    (hsx : nonDecreasing (tableElems s.mem (m + 4) et nx) = true)
    (hsy : nonDecreasing (tableElems s.mem (m + 4 + 2 * nx) et ny) = true) {ix rx iy ry : Nat}
    (hx : search (val s.aL et.query) (tableElems s.mem (m + 4) et nx) = (ix, rx))
    (hy : search (val s.bL et.query) (tableElems s.mem (m + 4 + 2 * nx) et ny) = (iy, ry)) :
    exec i s = .next (Completed s s.mem (gridOf s.params (mapZ s.mem m et nx ny) ix rx iy ry)) := by
  refine exec_of_eval_done hu ?_
  rw [hform, formProg, mapProg_eq, h.eval_withMapCounts, ← h.addr,
    eval_withMapAxes _ _ h.two_le_x h.two_le_y fun k hk => h.readable k (by omega), if_pos ⟨hsx, hsy⟩, hx, hy,
    eval_blend h.grid (fitsAxis_of_search h.two_le_x hx) (fitsAxis_of_search h.two_le_y hy)]

/-- MAPG blends at the packed indices and ratios, where they fit. -/
theorem exec_mapg (hform : i.form = .mapg et) (hu : Undisturbed s = true) (h : ReadableMap s m nx ny)
    (hx : FitsAxis nx (high16 s.aL) (low16 s.aL)) (hy : FitsAxis ny (high16 s.bL) (low16 s.bL)) :
    exec i s = .next (Completed s s.mem
      (gridOf s.params (mapZ s.mem m et nx ny) (high16 s.aL) (low16 s.aL) (high16 s.bL) (low16 s.bL))) := by
  refine exec_of_eval_done hu ?_
  rw [hform, formProg, mapgProg_eq, h.eval_withMapCounts, ← h.addr, eval_raiseIf, badPacked_eq_false_iff.2 ⟨hx, hy⟩,
    if_neg Bool.false_ne_true, eval_blend h.grid hx hy]

end

/-- The packed result of a DSEARCH over a map's axis fits the axis and unpacks to the search (R162). -/
theorem unpack_of_dsearch_done {i : Instr} {et : Elem} {s t : State} (hform : i.form = .dsearch et)
    (hu : Undisturbed s = true) (hexec : exec i s = .next t) (herr : t.err = .none)
    (hn : 2 ≤ countAt s.mem (addrOf s.bL)) :
    search (val s.aL et.query) (tableElems s.mem (addrOf s.bL + 2) et (countAt s.mem (addrOf s.bL))) =
      (high16 t.res, low16 t.res) := by
  rcases hsearch : search (val s.aL et.query)
    (tableElems s.mem (addrOf s.bL + 2) et (countAt s.mem (addrOf s.bL))) with ⟨j, r⟩
  have hfits := fitsAxis_of_search hn hsearch
  have hj := hfits.index_lt.trans (countAt_lt s.mem (addrOf s.bL))
  have hr := hfits.ratio_lt.trans (by decide : 32768 < 65536)
  rw [res_of_dsearch_done hform hu hexec herr hsearch, high16_enc64_pack hj hr, low16_enc64_pack hj hr]

end Sys2Proof.Machine

namespace Sys2Proof.Proofs

open Machine

/-- Settles O31: a distribution record's one check and a map's three. -/
theorem malformedTablesRejected : Obligations.MalformedTablesRejected := by
  unfold Obligations.MalformedTablesRejected
  refine ⟨fun i et s hform hu halign hread hbad => ?_, fun i et s hform hu halign hread hbad => ?_⟩
  · refine exec_of_eval_error hu ?_
    have hinvalid : ¬ (2 ≤ countAt s.mem (addrOf s.bL) ∧
        nonDecreasing (tableElems s.mem (addrOf s.bL + 2) et (countAt s.mem (addrOf s.bL))) = true) := by
      rintro ⟨hcount, hsorted⟩
      obtain hcount' | hsorted' := hbad
      · omega
      · simp [hsorted] at hsorted'
    obtain hform | hform := hform
    · rw [hform, formProg, dsearchProg_eq, eval_withDistribution _ _ halign hread, if_neg hinvalid]
    · rw [hform, formProg, curveProg_eq, eval_withDistribution _ _ halign hread, if_neg hinvalid]
  · refine exec_of_eval_error hu ?_
    rw [hform, formProg, mapProg_eq, eval_withMapCounts _ halign fun k hk => hread k (by omega)]
    by_cases hcounts : 2 ≤ countAt s.mem (addrOf s.cL) ∧ 2 ≤ countAt s.mem (addrOf s.cL + 2)
    · rw [if_pos hcounts, eval_withMapAxes _ _ hcounts.1 hcounts.2 hread, if_neg]
      rintro ⟨hsx, hsy⟩
      rw [hsx, hsy] at hbad
      simp only [Bool.true_eq_false, or_false] at hbad
      omega
    · rw [if_neg hcounts]

/-- Settles O34: both searches bracket their queries. -/
theorem mapResult : Obligations.MapResult := by
  unfold Obligations.MapResult
  intro i et s m nx ny hform hu haddr hcx hcy halign hread hnx hny hsx hsy
  exact ⟨_, _, _, _, exec_map hform hu ⟨haddr, hcx, hcy, halign, hread, hnx, hny⟩ hsx hsy Prod.mk.eta.symm
    Prod.mk.eta.symm, search_bracket _ _, search_bracket _ _⟩

/-- Settles O35: R188's conditions are that the packed operands fit their axes. -/
theorem groupedMapResult : Obligations.GroupedMapResult := by
  unfold Obligations.GroupedMapResult
  intro i et s m nx ny hform hu haddr hcx hcy halign hread hnx hny hrx hry hix hiy hnextx hnexty
  exact exec_mapg hform hu ⟨haddr, hcx, hcy, halign, hread, hnx, hny⟩ ⟨hix, hrx, hnextx⟩ ⟨hiy, hry, hnexty⟩

/-- Settles O36: with both counts at least 2, packed operands that fit their axes leave none of the reasons. -/
theorem groupedMapRejectsBadOperands : Obligations.GroupedMapRejectsBadOperands := by
  unfold Obligations.GroupedMapRejectsBadOperands
  rintro i et s m nx ny hform hu rfl rfl rfl halign hread hbad
  refine exec_of_eval_error hu ?_
  rw [hform, formProg, mapgProg_eq, eval_withMapCounts _ halign hread]
  by_cases hcounts : 2 ≤ countAt s.mem (addrOf s.cL) ∧ 2 ≤ countAt s.mem (addrOf s.cL + 2)
  · rw [if_pos hcounts, eval_raiseIf, if_pos]
    by_contra hfits
    obtain ⟨⟨hix, hrx, hnextx⟩, ⟨hiy, hry, hnexty⟩⟩ := badPacked_eq_false_iff.1 (Bool.not_eq_true _ ▸ hfits)
    omega
  · rw [if_neg hcounts]

/-- Settles O37: both commands blend at the indices and ratios that the two DSEARCH results pack. -/
theorem mapEqualsTwoSearchesThenGroupedMap : Obligations.MapEqualsTwoSearchesThenGroupedMap := by
  unfold Obligations.MapEqualsTwoSearchesThenGroupedMap
  intro i j k et s sx sy tx ty m nx ny hi hj hk hu haddr hcx hcy halign hread hnx hny hsx hsy hux _ hnx' hxd hx hexecx herrx
    huy _ hny' hyd hy hexecy herry
  have hmap : ReadableMap s m nx ny := ⟨haddr, hcx, hcy, halign, hread, hnx, hny⟩
  have hsearchx := unpack_of_dsearch_done hj hux hexecx herrx (by omega)
  have hsearchy := unpack_of_dsearch_done hj huy hexecy herry (by omega)
  rw [hnx', hxd, hx] at hsearchx
  rw [hny', hyd, hy] at hsearchy
  have hmap' : ReadableMap { s with aL := tx.res, bL := ty.res } m nx ny := ⟨haddr, hcx, hcy, halign, hread, hnx, hny⟩
  exact ⟨_, exec_map hi hu hmap hsx hsy hsearchx hsearchy, exec_mapg hk hu hmap'
    (fitsAxis_of_search hnx hsearchx) (fitsAxis_of_search hny hsearchy)⟩

end Sys2Proof.Proofs
end

section
/-! PROOFS. The sliding average, SAVG (44_sliding_average R200 to R205): the record as one call leaves it, the bounds of a
sum of samples (R202), under which the truncated average is a value of the element type, and R204's invariant. -/

namespace Sys2Proof

theorem Elem.range_u16 : Elem.u16.ty.min = 0 ∧ Elem.u16.ty.max = 65535 := by decide

theorem Elem.range_s16 : Elem.s16.ty.min = -32768 ∧ Elem.s16.ty.max = 32767 := by decide

end Sys2Proof

namespace Sys2Proof.Machine

/-! ## What a call leaves of the record and returns (R200) -/

/-- SUM after a call on the record at `a`. -/
def updatedSum (m : Memory) (a : Nat) (et : Elem) (sample : Int) : BitVec 32 :=
  newSum (loadMem m a .b4) (elemAt m (a + 8) et (countAt m (a + 4))) sample

/-- Memory after a call on the record at `a`: SUM, BUF[CURSOR] and CURSOR written, in R200's order. -/
def updatedRecord (m : Memory) (a : Nat) (et : Elem) (sample : Int) : Memory :=
  storeMem (storeMem (storeMem m a .b4 (updatedSum m a et sample)) (a + 8 + 2 * countAt m (a + 4)) .b2
    (BitVec.ofInt 32 (sample % 65536))) (a + 4) .b2 (BitVec.ofNat 32 (nextCursor (countAt m (a + 4)) (countAt m (a + 6))))

/-- The result of a call on the record at `a` with the operands of `s`. -/
def averageResult (s : State) (m : Memory) (a : Nat) (et : Elem) : Int :=
  averageValue et (low16 s.cL) (high16 s.cL) (val s.bL et.ty) (updatedSum m a et (val s.bL et.ty)) (countAt m (a + 6))

/-! ## The command's program -/

/-- How SAVG begins: the checked header of the record at `a`, and what follows from SUM, CURSOR and N. -/
def withAverageHeader (a : Nat) (f : BitVec 32 → Nat → Nat → Prog Int) : Prog Int :=
  (checkAlign a 4).bind fun _ =>
  (memRead a .b4).bind fun sum =>
  (memRead (a + 4) .b2).bind fun c =>
  (memRead (a + 6) .b2).bind fun n =>
  (raiseIf (decide (n.toNat = 0) || decide (n.toNat ≤ c.toNat)) .precond).bind fun _ => f sum c.toNat n.toNat

theorem savgProg_eq (et : Elem) (s : State) :
    savgProg et s = withAverageHeader (addrOf s.aL) fun sum c n =>
      .read (addrOf s.aL + 8 + 2 * c) .b2 fun slot =>
      .write (addrOf s.aL) .b4 (newSum sum (elemVal et slot) (val s.bL et.ty)) <|
      .write (addrOf s.aL + 8 + 2 * c) .b2 (BitVec.ofInt 32 (val s.bL et.ty % 65536)) <|
      .write (addrOf s.aL + 4) .b2 (BitVec.ofNat 32 (nextCursor c n)) <|
      .pure (averageValue et (low16 s.cL) (high16 s.cL) (val s.bL et.ty)
        (newSum sum (elemVal et slot) (val s.bL et.ty)) n) := rfl

/-- A readable header with CURSOR < N passes, and any other ends the command (R204). -/
theorem eval_withAverageHeader {s : State} {a : Nat} (f : BitVec 32 → Nat → Nat → Prog Int) (halign : a % 4 = 0)
    (hsum : readable s a .b4 = true) (hcursor : readable s (a + 4) .b2 = true)
    (hlength : readable s (a + 6) .b2 = true) :
    (withAverageHeader a f).eval s.platform s.mem =
      if countAt s.mem (a + 4) < countAt s.mem (a + 6) then
        (f (loadMem s.mem a .b4) (countAt s.mem (a + 4)) (countAt s.mem (a + 6))).eval s.platform s.mem
      else .error .precond s.mem := by
  rw [withAverageHeader, checkAlign_bind_aligned halign, memRead_bind, eval_read _ _ hsum, memRead_bind,
    eval_read _ _ hcursor, memRead_bind, eval_read _ _ hlength, ← countAt, ← countAt, eval_raiseIf]
  by_cases hc : countAt s.mem (a + 4) < countAt s.mem (a + 6)
  · rw [if_pos hc, if_neg]
    simp only [Bool.or_eq_true, decide_eq_true_eq]
    omega
  · rw [if_neg hc, if_pos]
    simp only [Bool.or_eq_true, decide_eq_true_eq]
    omega

/-- SAVG on a readable and writable record with CURSOR < N. -/
theorem exec_savg {i : Instr} {et : Elem} {s : State} {a : Nat} (hform : i.form = .savg et)
    (hu : Undisturbed s = true) (ha : a = addrOf s.aL) (halign : a % 4 = 0)
    (hc : countAt s.mem (a + 4) < countAt s.mem (a + 6)) (hsum : readable s a .b4 = true)
    (hcursor : readable s (a + 4) .b2 = true) (hlength : readable s (a + 6) .b2 = true)
    (hslot : readable s (a + 8 + 2 * countAt s.mem (a + 4)) .b2 = true) (hwsum : writable s a .b4 = true)
    (hwslot : writable s (a + 8 + 2 * countAt s.mem (a + 4)) .b2 = true) (hwcursor : writable s (a + 4) .b2 = true) :
    exec i s = .next (Completed s (updatedRecord s.mem a et (val s.bL et.ty)) (averageResult s s.mem a et)) := by
  refine exec_of_eval_done hu ?_
  rw [hform, formProg, savgProg_eq, ← ha, eval_withAverageHeader _ halign hsum hcursor hlength, if_pos hc, eval_read _ _ hslot,
    eval_write _ _ _ hwsum, eval_write _ _ _ hwslot, eval_write _ _ _ hwcursor]
  rfl

section

variable {α : Type} {g : List Region} {m m' : Memory}

theorem eval_write_eq_done {a : Nat} {n : Size} {v : BitVec 32} {k : Prog α} {r : α}
    (h : (Prog.write a n v k).eval g m = .done r m') : k.eval g (storeMem m a n v) = .done r m' := by
  simp only [Prog.eval] at h
  split_ifs at h
  exact h

theorem eval_withAverageHeader_eq_done {a : Nat} {f : BitVec 32 → Nat → Nat → Prog Int} {r : Int}
    (h : (withAverageHeader a f).eval g m = .done r m') :
    (f (loadMem m a .b4) (countAt m (a + 4)) (countAt m (a + 6))).eval g m = .done r m' :=
  eval_raiseIf_eq_done (eval_read_eq_done (eval_read_eq_done (eval_read_eq_done (eval_raiseIf_eq_done h))))

/-- What a SAVG that ends normally leaves and returns, whatever the platform's map. -/
theorem eval_savgProg_eq_done {s : State} {et : Elem} {r : Int} (h : (savgProg et s).eval g m = .done r m') :
    m' = updatedRecord m (addrOf s.aL) et (val s.bL et.ty) ∧ r = averageResult s m (addrOf s.aL) et := by
  rw [savgProg_eq] at h
  have hwrites := eval_read_eq_done (eval_withAverageHeader_eq_done h)
  cases eval_write_eq_done (eval_write_eq_done (eval_write_eq_done hwrites))
  exact ⟨rfl, rfl⟩

end

/-! ## The record's fields after a call -/

theorem nextCursor_lt {c n : Nat} (h : c < n) : nextCursor c n < n := by
  unfold nextCursor
  split_ifs <;> omega

/-- A halfword stored as the low 16 bits of a value of the element type reads back as the value (R205). -/
theorem elemVal_loadMem_storeMem {m : Memory} (hwf : m.wf = true) (a : Nat) {et : Elem} {v : Int}
    (hmin : et.ty.min ≤ v) (hmax : v ≤ et.ty.max) :
    elemVal et (loadMem (storeMem m a .b2 (BitVec.ofInt 32 (v % 65536))) a .b2) = v := by
  have hlow : (loadMem (storeMem m a .b2 (BitVec.ofInt 32 (v % 65536))) a .b2).setWidth 16 = BitVec.ofInt 16 v := by
    apply BitVec.eq_of_toNat_eq
    simp only [loadMem_storeMem_same hwf, Size.bytes, BitVec.toNat_setWidth, BitVec.toNat_ofNat, BitVec.toNat_ofInt]
    omega
  cases et with
  | u16 =>
    rw [Elem.range_u16.1] at hmin
    rw [Elem.range_u16.2] at hmax
    rw [elemVal, hlow, BitVec.toNat_ofInt]
    omega
  | s16 =>
    rw [elemVal, hlow]
    exact BitVec.toInt_ofInt_eq_self (by decide) hmin (Int.lt_of_le_sub_one hmax)

section

variable (m : Memory) (a : Nat) (et : Elem) (sample : Int)

/-- A call writes SUM, CURSOR and one slot, and no other byte (R205). -/
theorem readByte_updatedRecord_other {b : Nat} (hheader : ¬ (a ≤ b ∧ b < a + 6))
    (hslot : ¬ (a + 8 + 2 * countAt m (a + 4) ≤ b ∧ b < a + 8 + 2 * countAt m (a + 4) + 2)) :
    readByte (updatedRecord m a et sample) b = readByte m b := by
  rw [updatedRecord, readByte_storeMem_other _ _ _ _ _ (by simp only [Size.bytes]; omega),
    readByte_storeMem_other _ _ _ _ _ (by simp only [Size.bytes]; omega),
    readByte_storeMem_other _ _ _ _ _ (by simp only [Size.bytes]; omega)]

/-- A halfword past CURSOR and outside the slot that a call writes stays. -/
theorem loadMem_updatedRecord_other {b : Nat} (hheader : a + 6 ≤ b)
    (hslot : b + 2 ≤ a + 8 + 2 * countAt m (a + 4) ∨ a + 8 + 2 * countAt m (a + 4) + 2 ≤ b) :
    loadMem (updatedRecord m a et sample) b .b2 = loadMem m b .b2 := by
  unfold loadMem
  rw [readLe_congr _ _ m _ fun c hlo hhi =>
    readByte_updatedRecord_other m a et sample (by omega) (by simp only [Size.bytes] at hhi; omega)]

theorem countAt_length_updatedRecord : countAt (updatedRecord m a et sample) (a + 6) = countAt m (a + 6) := by
  rw [countAt, loadMem_updatedRecord_other _ _ _ _ le_rfl (by omega), countAt]

variable {m} (hwf : m.wf = true)

include hwf

theorem loadMem_sum_updatedRecord :
    loadMem (updatedRecord m a et sample) a .b4 = updatedSum m a et sample := by
  rw [updatedRecord, loadMem_storeMem_other _ _ _ _ _ _ (by simp only [Size.bytes]; omega),
    loadMem_storeMem_other _ _ _ _ _ _ (by simp only [Size.bytes]; omega), loadMem_storeMem_same hwf]
  apply BitVec.eq_of_toNat_eq
  simp only [Size.bytes, BitVec.toNat_ofNat]
  omega

theorem countAt_cursor_updatedRecord (hc : countAt m (a + 4) < countAt m (a + 6)) :
    countAt (updatedRecord m a et sample) (a + 4) = nextCursor (countAt m (a + 4)) (countAt m (a + 6)) := by
  have hnext := nextCursor_lt hc
  have hlength := countAt_lt m (a + 6)
  rw [countAt, updatedRecord, loadMem_storeMem_same (wf_storeMem (wf_storeMem hwf _ _ _) _ _ _)]
  simp only [Size.bytes, BitVec.toNat_ofNat]
  omega

/-- The samples after a call: the one in slot CURSOR is replaced. -/
theorem tableElems_updatedRecord (hmin : et.ty.min ≤ sample) (hmax : sample ≤ et.ty.max) (n : Nat) :
    tableElems (updatedRecord m a et sample) (a + 8) et n =
      (tableElems m (a + 8) et n).set (countAt m (a + 4)) sample := by
  apply List.ext_getElem
  · simp [tableElems]
  · intro k _ _
    simp only [tableElems, List.getElem_set, List.getElem_map, List.getElem_range]
    split_ifs with hk
    · subst hk
      rw [updatedRecord, loadMem_storeMem_other _ _ _ _ _ _ (by simp only [Size.bytes]; omega)]
      exact elemVal_loadMem_storeMem (wf_storeMem hwf _ _ _) _ hmin hmax
    · rw [loadMem_updatedRecord_other _ _ _ _ (by omega) (by omega)]

/-- The sum of the samples after a call (R200). -/
theorem bufSum_updatedRecord (hmin : et.ty.min ≤ sample) (hmax : sample ≤ et.ty.max) {n : Nat}
    (hc : countAt m (a + 4) < n) :
    bufSum (updatedRecord m a et sample) a et n =
      bufSum m a et n - elemAt m (a + 8) et (countAt m (a + 4)) + sample := by
  rw [bufSum, tableElems_updatedRecord a et sample hwf hmin hmax, List.sum_set',
    dif_pos (by rwa [length_tableElems]), bufSum]
  simp only [tableElems, List.getElem_map, List.getElem_range, elemAt]
  omega

end

/-! ## The sum's bounds and the average (R201, R202) -/

theorem bufSum_between (m : Memory) (a : Nat) (et : Elem) (n : Nat) :
    n * et.ty.min ≤ bufSum m a et n ∧ bufSum m a et n ≤ n * et.ty.max := by
  have hmem : ∀ x ∈ tableElems m (a + 8) et n, et.ty.min ≤ x ∧ x ≤ et.ty.max := by
    intro x hx
    obtain ⟨k, -, rfl⟩ := List.mem_map.1 hx
    exact elemVal_mem et _
  have hlow := List.card_nsmul_le_sum _ _ fun x hx => (hmem x hx).1
  have hhigh := List.sum_le_card_nsmul _ _ fun x hx => (hmem x hx).2
  rw [length_tableElems, nsmul_eq_mul] at hlow hhigh
  exact ⟨hlow, hhigh⟩

/-- A sum of fewer than 2^16 samples fits the 32 bits of SUM, read with the signedness of the samples (R202). -/
theorem queryVal_ofInt {et : Elem} {n : Nat} (hn : n < 65536) {v : Int} (hmin : n * et.ty.min ≤ v)
    (hmax : v ≤ n * et.ty.max) : queryVal et (BitVec.ofInt 32 v) = v := by
  cases et with
  | u16 =>
    rw [Elem.range_u16.1] at hmin
    rw [Elem.range_u16.2] at hmax
    rw [queryVal, BitVec.toNat_ofInt]
    omega
  | s16 =>
    rw [Elem.range_s16.1] at hmin
    rw [Elem.range_s16.2] at hmax
    exact BitVec.toInt_ofInt_eq_self (by decide) (by omega) (by omega)

theorem tdiv_between {n : Nat} (hn : 0 < n) {lo hi v : Int} (hmin : n * lo ≤ v) (hmax : v ≤ n * hi) :
    lo ≤ v.tdiv n ∧ v.tdiv n ≤ hi := by
  have hpos : (0 : Int) < n := by exact_mod_cast hn
  constructor
  · calc lo = (n * lo : Int).tdiv n := (Int.mul_tdiv_cancel_left lo hpos.ne').symm
      _ ≤ v.tdiv n := Int.tdiv_le_tdiv hpos hmin
  · calc v.tdiv n ≤ (n * hi : Int).tdiv n := Int.tdiv_le_tdiv hpos hmax
      _ = hi := Int.mul_tdiv_cancel_left hi hpos.ne'

/-! ## R204's invariant -/

section

variable {m : Memory} {a : Nat} {et : Elem} {sample : Int}

/-- On a consistent record SUM becomes the sum of the samples that a call leaves. -/
theorem updatedSum_eq_ofInt_bufSum (hwf : m.wf = true) (hrec : ConsistentAverage m a et) (hmin : et.ty.min ≤ sample)
    (hmax : sample ≤ et.ty.max) :
    updatedSum m a et sample = BitVec.ofInt 32 (bufSum (updatedRecord m a et sample) a et (countAt m (a + 6))) := by
  obtain ⟨hsum, hc⟩ := hrec
  rw [bufSum_updatedRecord a et sample hwf hmin hmax hc, updatedSum, newSum, hsum]
  apply BitVec.eq_of_toNat_eq
  simp only [BitVec.toNat_ofInt]
  omega

theorem consistentAverage_updatedRecord (hwf : m.wf = true) (hrec : ConsistentAverage m a et)
    (hmin : et.ty.min ≤ sample) (hmax : sample ≤ et.ty.max) : ConsistentAverage (updatedRecord m a et sample) a et := by
  refine ⟨?_, ?_⟩
  · rw [loadMem_sum_updatedRecord a et sample hwf, countAt_length_updatedRecord]
    exact updatedSum_eq_ofInt_bufSum hwf hrec hmin hmax
  · rw [countAt_cursor_updatedRecord a et sample hwf hrec.2, countAt_length_updatedRecord]
    exact nextCursor_lt hrec.2

/-- The result of a call on a consistent record is a value of the element type. -/
theorem averageResult_mem (s : State) (hwf : m.wf = true) (hrec : ConsistentAverage m a et) :
    et.ty.min ≤ averageResult s m a et ∧ averageResult s m a et ≤ et.ty.max := by
  obtain ⟨hmin, hmax⟩ := val_mem s.bL et.ty
  unfold averageResult averageValue
  split_ifs with hcnt
  · exact ⟨hmin, hmax⟩
  · obtain ⟨hlow, hhigh⟩ :=
      bufSum_between (updatedRecord m a et (val s.bL et.ty)) a et (countAt m (a + 6))
    rw [updatedSum_eq_ofInt_bufSum hwf hrec hmin hmax, queryVal_ofInt (countAt_lt m _) hlow hhigh]
    exact tdiv_between (Nat.zero_lt_of_lt hrec.2) hlow hhigh

end

end Sys2Proof.Machine

namespace Sys2Proof.Proofs

open Machine

/-- Settles O40: a SAVG that ends normally left the updated record, whose SUM is the sum of its samples; a sum of fewer
than 2^16 samples fits SUM, so that the average read from SUM lies between the bounds of the samples. -/
theorem slidingAverageKeepsTheRecordConsistent : Obligations.SlidingAverageKeepsTheRecordConsistent := by
  unfold Obligations.SlidingAverageKeepsTheRecordConsistent
  intro i et s t hform hu _ hwf hrec hexec herr
  obtain ⟨r, m, heval, rfl⟩ := eval_done_of_err_none hu hexec herr
  rw [hform, formProg] at heval
  obtain ⟨rfl, rfl⟩ := eval_savgProg_eq_done heval
  obtain ⟨hmin, hmax⟩ := val_mem s.bL et.ty
  exact ⟨consistentAverage_updatedRecord hwf hrec hmin hmax, countAt_length_updatedRecord _ _ _ _, _, rfl,
    averageResult_mem s hwf hrec⟩

/-- Settles O39: the record's update and its frame. -/
theorem slidingAverageResult : Obligations.SlidingAverageResult := by
  unfold Obligations.SlidingAverageResult
  rintro i et s a c n sample sum2 hform hu ha rfl rfl rfl rfl halign hc hsum hcursor hlength hslot hwsum hwslot hwcursor
  have hexec := exec_savg hform hu ha halign hc hsum hcursor hlength hslot hwsum hwslot hwcursor
  refine ⟨updatedRecord s.mem a et (val s.bL et.ty), rfl, ?_, fun b hheader hother =>
    readByte_updatedRecord_other _ _ _ _ hheader hother⟩
  rw [hexec]
  cases et <;> rfl

/-- Settles O41: a readable header is checked before the slot is read. -/
theorem slidingAverageRejectsBadRecords : Obligations.SlidingAverageRejectsBadRecords := by
  unfold Obligations.SlidingAverageRejectsBadRecords
  rintro i et s a hform hu rfl halign hsum hcursor hlength hbad
  refine exec_of_eval_error hu ?_
  rw [hform, formProg, savgProg_eq, eval_withAverageHeader _ halign hsum hcursor hlength, if_neg (by omega)]

end Sys2Proof.Proofs
end

section
/-! PROOFS. Debounce, DEB (45_debounce R220 to R224): one call by its three cases, the record as a call leaves it, and the
first call of a steady change that reaches the settle time (R222). -/

namespace Sys2Proof.Machine

/-! ## One call (R220, R223) -/

/-- The settle time of the transition away from the accepted value (R220). -/
def settleTime (accepted : Bool) (tlh thl : Nat) : Nat := if accepted then thl else tlh

section

variable {raw accepted : Bool} {acc delta tlh thl : Nat}

theorem debounceNext_of_eq (h : raw = accepted) : debounceNext raw accepted acc delta tlh thl = (accepted, 0) :=
  if_pos h

theorem debounceNext_of_settled (h : raw ≠ accepted)
    (hsettled : settleTime accepted tlh thl ≤ Nat.min (acc + delta) (2 ^ 32 - 1)) :
    debounceNext raw accepted acc delta tlh thl = (raw, 0) :=
  (if_neg h).trans (if_pos hsettled)

theorem debounceNext_of_pending (h : raw ≠ accepted)
    (hpending : Nat.min (acc + delta) (2 ^ 32 - 1) < settleTime accepted tlh thl) :
    debounceNext raw accepted acc delta tlh thl = (accepted, Nat.min (acc + delta) (2 ^ 32 - 1)) :=
  (if_neg h).trans (if_neg (Nat.not_le.2 hpending))

end

/-! ## The record after a call -/

/-- The record's accepted value: any nonzero ACCEPTED is true (R223). -/
def acceptedAt (m : Memory) (b : Nat) : Bool := loadMem m b .b4 != 0

theorem acceptedAt_eq_decide (m : Memory) (b : Nat) : acceptedAt m b = decide (loadMem m b .b4 ≠ 0) := by
  rw [acceptedAt, bne, decide_not, beq_eq_decide]

/-- ACCEPTED and ACC after a call on the record at `b`. -/
def debouncedAt (m : Memory) (b : Nat) (raw : Bool) (delta : Nat) : Bool × Nat :=
  debounceNext raw (acceptedAt m b) (loadMem m (b + 4) .b4).toNat delta (loadMem m (b + 8) .b4).toNat
    (loadMem m (b + 12) .b4).toNat

theorem settleTime_loadMem (m : Memory) (b : Nat) (accepted : Bool) :
    settleTime accepted (loadMem m (b + 8) .b4).toNat (loadMem m (b + 12) .b4).toNat =
      (loadMem m (if accepted then b + 12 else b + 8) .b4).toNat := by
  cases accepted <;> rfl

/-- Memory with ACCEPTED and ACC written in the record at `b`, in R220's order. -/
def storeDebounced (m : Memory) (b : Nat) (after : Bool × Nat) : Memory :=
  storeMem (storeMem m b .b4 (if after.1 then 1 else 0)) (b + 4) .b4 (BitVec.ofNat 32 after.2)

/-- A call writes ACCEPTED and ACC and no other byte: the settle times stay (R224). -/
theorem readByte_storeDebounced_other (m : Memory) (b : Nat) (after : Bool × Nat) {x : Nat}
    (hx : ¬ (b ≤ x ∧ x < b + 8)) : readByte (storeDebounced m b after) x = readByte m x := by
  rw [storeDebounced, readByte_storeMem_other _ _ _ _ _ (by simp only [Size.bytes]; omega),
    readByte_storeMem_other _ _ _ _ _ (by simp only [Size.bytes]; omega)]

theorem ofNat_flagVal (out : Bool) : BitVec.ofNat 32 (flagVal out) = if out then 1 else 0 := by cases out <;> rfl

theorem intCast_flagVal (out : Bool) : (flagVal out : Int) = if out then 1 else 0 := by cases out <;> rfl

/-- DEB on a readable record whose two written fields are writable: every record value is admitted (R220). -/
theorem exec_deb {s : State} {b : Nat} (hu : Undisturbed s = true) (hb : b = addrOf s.aL) (halign : b % 4 = 0)
    (haccepted : readable s b .b4 = true) (hacc : readable s (b + 4) .b4 = true)
    (htlh : readable s (b + 8) .b4 = true) (hthl : readable s (b + 12) .b4 = true)
    (hwaccepted : writable s b .b4 = true) (hwacc : writable s (b + 4) .b4 = true) :
    exec .deb s = .next (Completed s
      (storeDebounced s.mem b (debouncedAt s.mem b (bit0 s.bL) (low32 s.cL).toNat))
      (if (debouncedAt s.mem b (bit0 s.bL) (low32 s.cL).toNat).1 then 1 else 0)) := by
  refine exec_of_eval_done hu ?_
  change (debProg s).eval s.platform s.mem = _
  simp only [debProg, ← hb]
  rw [checkAlign_bind_aligned halign, memRead_bind, eval_read _ _ haccepted, memRead_bind, eval_read _ _ hacc,
    memRead_bind, eval_read _ _ htlh, memRead_bind, eval_read _ _ hthl, memWrite_bind, eval_write _ _ _ hwaccepted,
    memWrite_bind, eval_write _ _ _ hwacc, eval_pure, ofNat_flagVal, intCast_flagVal]
  rfl

/-! ## Calls in a row (R222) -/

/-- ACCEPTED and ACC after calls with the same raw input, one for each delta. -/
def debounceCalls (raw : Bool) (tlh thl : Nat) (start : Bool × Nat) (deltas : List Nat) : Bool × Nat :=
  deltas.foldl (fun st d => debounceNext raw st.1 st.2 d tlh thl) start

theorem debounceCalls_concat (raw : Bool) (tlh thl : Nat) (start : Bool × Nat) (deltas : List Nat) (last : Nat) :
    debounceCalls raw tlh thl start (deltas ++ [last]) =
      debounceNext raw (debounceCalls raw tlh thl start deltas).1 (debounceCalls raw tlh thl start deltas).2 last tlh thl := by
  simp only [debounceCalls, List.foldl_append, List.foldl_cons, List.foldl_nil]

/-- Below a settle time that ACC can hold, the accumulator is the exact sum: saturation cannot occur. -/
theorem debounceCalls_of_pending {raw accepted : Bool} {tlh thl : Nat} (hraw : raw ≠ accepted)
    (hsettle : settleTime accepted tlh thl < 2 ^ 32) (deltas : List Nat) :
    ∀ acc, acc + deltas.sum < settleTime accepted tlh thl →
      debounceCalls raw tlh thl (accepted, acc) deltas = (accepted, acc + deltas.sum) := by
  induction deltas with
  | nil => intro acc _; rfl
  | cons d rest ih =>
    intro acc hsum
    rw [List.sum_cons, ← Nat.add_assoc] at hsum ⊢
    have hexact : Nat.min (acc + d) (2 ^ 32 - 1) = acc + d := Nat.min_eq_left (by omega)
    have hcall : debounceNext raw accepted acc d tlh thl = (accepted, acc + d) := by
      rw [debounceNext_of_pending hraw (by omega), hexact]
    calc debounceCalls raw tlh thl (accepted, acc) (d :: rest)
        = debounceCalls raw tlh thl (debounceNext raw accepted acc d tlh thl) rest := rfl
      _ = (accepted, acc + d + rest.sum) := by rw [hcall, ih _ hsum]

end Sys2Proof.Machine

namespace Sys2Proof.Proofs

open Machine

/-- Settles O42: the command leaves the record of one call, whose three cases exclude each other. -/
theorem debounceResult : Obligations.DebounceResult := by
  unfold Obligations.DebounceResult
  rintro s b acc accepted raw hu hb halign rfl haccepted rfl hread hwaccepted hwacc
  have hexec := exec_deb hu hb halign (hread 0 (by decide)) (hread 1 (by decide)) (hread 2 (by decide))
    (hread 3 (by decide)) hwaccepted hwacc
  rw [← acceptedAt_eq_decide] at haccepted
  rw [← settleTime_loadMem]
  subst haccepted
  refine ⟨_, _, _, hexec, rfl, fun x hx => readByte_storeDebounced_other _ _ _ hx, fun heq => ?_,
    fun hne hsettled => ?_, fun hne hpending => ?_⟩
  · exact Prod.mk.inj (debounceNext_of_eq heq)
  · exact Prod.mk.inj (debounceNext_of_settled hne hsettled)
  · exact Prod.mk.inj (debounceNext_of_pending hne hpending)

/-- Settles O43: until the last call the accumulator is the exact sum, and a settle time below 2^32 is reached whether or not
the last sum saturates. -/
theorem debounceAcceptsAtTheSettleTime : Obligations.DebounceAcceptsAtTheSettleTime := by
  unfold Obligations.DebounceAcceptsAtTheSettleTime
  intro accepted tlh thl deltas last htlh hthl hsum
  have hraw : (!accepted) ≠ accepted := Bool.not_ne_self accepted
  have hsettle : settleTime accepted tlh thl < 2 ^ 32 := by unfold settleTime; split_ifs <;> assumption
  have hcalls : debounceCalls (!accepted) tlh thl (accepted, 0) deltas = (accepted, deltas.sum) := by
    rw [debounceCalls_of_pending hraw hsettle deltas 0 (by rwa [Nat.zero_add]), Nat.zero_add]
  refine ⟨hcalls, fun hlast => ?_⟩
  have hreached : settleTime accepted tlh thl ≤ Nat.min (deltas.sum + last) (2 ^ 32 - 1) :=
    Nat.le_min.2 ⟨hlast, Nat.le_sub_one_of_lt hsettle⟩
  calc debounceCalls (!accepted) tlh thl (accepted, 0) (deltas ++ [last])
      = debounceNext (!accepted) accepted deltas.sum last tlh thl := by rw [debounceCalls_concat, hcalls]
    _ = (!accepted, 0) := debounceNext_of_settled hraw hreached

end Sys2Proof.Proofs
end

section
/-! PROOFS. The software timer, TSTART, TELAPSED, TISSTOPPED and TSTOP (46_timer R240 to R247): each command is a store
into STARTED_AT or a value computed from it, and the two branches of the elapsed time are one difference mod 2^32. -/

namespace Sys2Proof.Machine

/-! ## The two shapes of program (R240, R242, R244, R246) -/

/-- How TSTART and TSTOP run: `v` is stored into the checked record at `t`. -/
def storeStartedAt (t : Nat) (v : BitVec 32) : Prog Int :=
  (checkAlign t 4).bind fun _ => (memWrite t .b4 v).bind fun _ => .pure 0

/-- How TELAPSED and TISSTOPPED run: the result is computed from STARTED_AT of the checked record at `t`. -/
def ofStartedAt (t : Nat) (f : BitVec 32 → Int) : Prog Int :=
  (checkAlign t 4).bind fun _ => (memRead t .b4).bind fun st => .pure (f st)

theorem tstartProg_eq (s : State) : tstartProg s = storeStartedAt (addrOf s.aL) (low32 s.bL) := rfl

theorem tstopProg_eq (s : State) : tstopProg s = storeStartedAt (addrOf s.aL) 0 := rfl

theorem telapsedProg_eq (s : State) :
    telapsedProg s = ofStartedAt (addrOf s.aL) fun st => elapsed (low32 s.bL).toNat st.toNat := rfl

theorem tisstoppedProg_eq (s : State) :
    tisstoppedProg s = ofStartedAt (addrOf s.aL) fun st => if st = 0 then 1 else 0 := rfl

section

variable {i : Instr} {s : State} {t : Nat} (hu : Undisturbed s = true) (halign : t % 4 = 0)

include hu halign

theorem exec_of_storeStartedAt {v : BitVec 32} (hprog : formProg i.form s = storeStartedAt t v)
    (hwrite : writable s t .b4 = true) : exec i s = .next (Completed s (storeMem s.mem t .b4 v) 0) := by
  refine exec_of_eval_done hu ?_
  rw [hprog, storeStartedAt, checkAlign_bind_aligned halign, memWrite_bind, eval_write _ _ _ hwrite, eval_pure]

theorem exec_of_ofStartedAt {f : BitVec 32 → Int} (hprog : formProg i.form s = ofStartedAt t f)
    (hread : readable s t .b4 = true) : exec i s = .next (Completed s s.mem (f (loadMem s.mem t .b4))) := by
  refine exec_of_eval_done hu ?_
  rw [hprog, ofStartedAt, checkAlign_bind_aligned halign, memRead_bind, eval_read _ _ hread, eval_pure]

end

/-- TISSTOPPED compares STARTED_AT with the sentinel (R244). -/
theorem exec_tisstopped {s : State} (hu : Undisturbed s = true) (halign : addrOf s.aL % 4 = 0)
    (hread : readable s (addrOf s.aL) .b4 = true) {st : BitVec 32} (hst : loadMem s.mem (addrOf s.aL) .b4 = st) :
    exec .tisstopped s = .next (Completed s s.mem (if st = 0 then 1 else 0)) := by
  rw [exec_of_ofStartedAt (i := .tisstopped) hu halign (tisstoppedProg_eq s) hread, hst]

/-! ## The word at the record (20_memory R52) -/

/-- A whole word read back after its store. -/
theorem loadMem_storeMem_word {m : Memory} (hwf : m.wf = true) (a : Nat) (v : BitVec 32) :
    loadMem (storeMem m a .b4 v) a .b4 = v := by
  have hlt : v.toNat < 256 ^ Size.b4.bytes := v.isLt
  rw [loadMem_storeMem_same hwf, Nat.mod_eq_of_lt hlt, BitVec.ofNat_toNat, BitVec.setWidth_eq]

/-! ## Elapsed time (R242, R243) -/

/-- The branch without a wrap is the difference itself, the other one 2^32 more. -/
theorem elapsed_eq_emod {now st : Nat} (hnow : now < 2 ^ 32) (hst : st < 2 ^ 32) :
    elapsed now st = ((now : Int) - st) % 4294967296 := by
  unfold elapsed
  split_ifs with h
  · exact (Int.emod_eq_of_lt (by omega) (by omega)).symm
  · calc (0xFFFFFFFF : Int) - ((st : Int) - now - 1)
        = (now : Int) - st + 4294967296 := by ring
      _ = ((now : Int) - st + 4294967296) % 4294967296 := (Int.emod_eq_of_lt (by omega) (by omega)).symm
      _ = ((now : Int) - st) % 4294967296 := Int.add_emod_right _ _

end Sys2Proof.Machine

namespace Sys2Proof.Proofs

open Machine

/-- Settles O44: both commands are one store into STARTED_AT. -/
theorem timerStartAndStop : Obligations.TimerStartAndStop := by
  unfold Obligations.TimerStartAndStop
  intro i s now hu halign hwrite hcase
  have hprog : formProg i.form s = storeStartedAt (addrOf s.aL) now := by
    obtain ⟨hform, rfl⟩ | ⟨hform, rfl⟩ := hcase
    · rw [hform, formProg, tstartProg_eq]
    · rw [hform, formProg, tstopProg_eq]
  refine ⟨_, rfl, exec_of_storeStartedAt hu halign hprog hwrite, fun b hb => ?_,
    fun hwf => loadMem_storeMem_word hwf _ _⟩
  exact readByte_storeMem_other _ _ _ _ _ (by simp only [Size.bytes]; omega)

/-- Settles O45: the elapsed time of R242 is a difference mod 2^32 in both branches. -/
theorem timerElapsed : Obligations.TimerElapsed := by
  unfold Obligations.TimerElapsed
  intro s hu halign hread
  rw [exec_of_ofStartedAt (i := .telapsed) hu halign (telapsedProg_eq s) hread,
    elapsed_eq_emod (BitVec.isLt _) (BitVec.isLt _)]

/-- Settles O46: TSTART at `now = 0` stores the sentinel that TISSTOPPED then reads back (R241). -/
theorem timerIsStopped : Obligations.TimerIsStopped := by
  unfold Obligations.TimerIsStopped
  refine ⟨fun s hu halign hread => ?_, fun s hu hwf halign hread hwrite hnow => ?_⟩
  · rw [exec_tisstopped hu halign hread rfl]
    simp only [BitVec.toNat_eq, BitVec.ofNat_eq_ofNat, BitVec.toNat_ofNat, Nat.zero_mod]
  · have hstart : exec .tstart s = .next (Completed s (storeMem s.mem (addrOf s.aL) .b4 0) 0) :=
      exec_of_storeStartedAt (i := .tstart) hu halign (hnow ▸ tstartProg_eq s) hwrite
    have htest := exec_tisstopped (undisturbed_completed hu (storeMem s.mem (addrOf s.aL) .b4 0) 0) halign hread
      (loadMem_storeMem_word hwf _ _)
    exact ⟨_, hstart, by rw [htest, if_pos rfl]⟩

end Sys2Proof.Proofs
end

section
/-! PROOFS. CRC-8 (47_crc8 R260 to R263): the printed table is the polynomial's, one byte's step can be taken back, and the
command's loop over readable bytes and past the end of memory. -/

namespace Sys2Proof.Machine

/-! ## The table (R260) -/

theorem crcTable_length : crcTable.length = 256 := by decide +kernel

/-- Each of the 256 printed entries, computed. -/
theorem crcTable_getD : ∀ i : BitVec 8, crcTable.getD i.toNat 0 = crcEntry i := by decide +kernel

/-- One byte folded in is the remainder of `crc xor b`. -/
theorem crcStep_eq (crc b : BitVec 8) : crcStep crc b = crcEntry (crc ^^^ b) := crcTable_getD (crc ^^^ b)

/-! ## A step taken back -/

/-- One shift step taken back. The polynomial's constant term is 1 and a shift leaves bit 0 clear, so bit 0 of the outcome
tells whether the polynomial was added. -/
def crcUnshift (c : BitVec 8) : BitVec 8 := if c.getLsbD 0 then (c ^^^ 0x2F) >>> 1 ||| 0x80 else c >>> 1

theorem crcUnshift_crcShift : Function.LeftInverse crcUnshift crcShift := by
  unfold Function.LeftInverse
  decide

theorem crcEntry_eq_iterate : crcEntry = crcShift^[8] := rfl

/-- Different bytes have different remainders. -/
theorem crcEntry_injective : Function.Injective crcEntry :=
  crcEntry_eq_iterate ▸ crcUnshift_crcShift.injective.iterate 8

theorem crcStep_injective_byte (crc : BitVec 8) : Function.Injective (crcStep crc) := by
  intro b b' h
  rw [crcStep_eq, crcStep_eq] at h
  exact (BitVec.xor_right_inj crc).1 (crcEntry_injective h)

theorem crcStep_injective_crc (b : BitVec 8) : Function.Injective (crcStep · b) := by
  intro c c' h
  simp only [crcStep_eq] at h
  exact (BitVec.xor_left_inj b).1 (crcEntry_injective h)

/-- Different values of the CRC stay different over the same bytes. -/
theorem foldl_crcStep_injective (bytes : List (BitVec 8)) : Function.Injective (bytes.foldl crcStep) := by
  induction bytes with
  | nil => exact Function.injective_id
  | cons b rest ih => exact ih.comp (crcStep_injective_crc b)

/-! ## The loop (R261, R263) -/

theorem setWidth_loadMem_byte (m : Memory) (a : Nat) : (loadMem m a .b1).setWidth 8 = readByte m a := by
  apply BitVec.eq_of_toNat_eq
  have hbyte := (readByte m a).isLt
  simp only [loadMem, Size.bytes, readLe, BitVec.toNat_setWidth, BitVec.toNat_ofNat]
  omega

/-- The `n` bytes of memory from `a`, ascending. -/
def bytesAt (m : Memory) (a n : Nat) : List (BitVec 8) := (List.range n).map fun k => readByte m (a + k)

theorem bytesAt_succ (m : Memory) (a n : Nat) : bytesAt m a (n + 1) = readByte m a :: bytesAt m (a + 1) n := by
  simp only [bytesAt, List.range_succ_eq_map, List.map_cons, List.map_map, Nat.add_zero, Function.comp_def,
    Nat.add_assoc, Nat.succ_eq_add_one, Nat.add_comm 1]

section

variable {s : State} (m : Memory) (n : Nat)

/-- The loop over readable bytes is their fold. -/
theorem eval_crcLoop : ∀ (a : Nat) (crc : BitVec 8), (∀ k, k < n → readable s (a + k) .b1 = true) →
    (crcLoop n a crc).eval s.platform m = .done ((bytesAt m a n).foldl crcStep crc) m := by
  induction n with
  | zero => intro a crc _; rfl
  | succ n ih =>
    intro a crc hread
    have hfirst : readable s a .b1 = true := hread 0 n.succ_pos
    have hrest : ∀ k, k < n → readable s (a + 1 + k) .b1 = true := fun k hk => by
      rw [Nat.add_assoc, Nat.add_comm 1]; exact hread (k + 1) (Nat.succ_lt_succ hk)
    rw [crcLoop, memRead_bind, eval_read _ _ hfirst, ih _ _ hrest, setWidth_loadMem_byte, bytesAt_succ, List.foldl_cons]

/-- A loop past 2^32 stops at the first byte that does not exist. -/
theorem eval_crcLoop_outside : ∀ (a : Nat) (crc : BitVec 8), a ≤ 2 ^ 32 → 2 ^ 32 < a + n →
    (∀ k, a + k < 2 ^ 32 → readable s (a + k) .b1 = true) → (crcLoop n a crc).eval s.platform m = .error .busErr m := by
  induction n with
  | zero => intro a crc hstart hpast; omega
  | succ n ih =>
    intro a crc hstart hpast hread
    rw [crcLoop, memRead_bind]
    obtain hinside | rfl := Nat.lt_or_eq_of_le hstart
    · have hrest : ∀ k, a + 1 + k < 2 ^ 32 → readable s (a + 1 + k) .b1 = true := fun k hk => by
        rw [Nat.add_assoc] at hk ⊢; exact hread (1 + k) hk
      have hfirst : readable s a .b1 = true := hread 0 hinside
      rw [eval_read _ _ hfirst]
      exact ih _ _ hinside (by omega) hrest
    · exact eval_read_outside _ (by decide)

end

end Sys2Proof.Machine

namespace Sys2Proof.Proofs

open Machine

/-- Settles O47: entry by entry. -/
theorem crcTableIsThePolynomialRemainder : Obligations.CrcTableIsThePolynomialRemainder := by
  unfold Obligations.CrcTableIsThePolynomialRemainder
  exact ⟨crcTable_length, crcTable_getD⟩

/-- Settles O48: the loop's fold, with each lookup in the table said as a remainder. -/
theorem crcResult : Obligations.CrcResult := by
  unfold Obligations.CrcResult
  intro s hu hread
  simp only [← crcStep_eq]
  refine exec_of_eval_done hu ?_
  change (crc8Prog s).eval s.platform s.mem = _
  rw [crc8Prog, eval_bind_done _ _ (eval_crcLoop _ _ _ _ hread), eval_pure]
  rfl

/-- Settles O49: the changed byte gives another CRC, and the bytes after it keep the two apart. -/
theorem crcDetectsAChangedByte : Obligations.CrcDetectsAChangedByte := by
  unfold Obligations.CrcDetectsAChangedByte
  intro before after b b' seed hne heq
  simp only [List.foldl_append, List.foldl_cons] at heq
  exact hne (crcStep_injective_byte _ (foldl_crcStep_injective after heq))

/-- Settles O50: the loop's error is the command's. -/
theorem crcPastTheEndOfMemory : Obligations.CrcPastTheEndOfMemory := by
  unfold Obligations.CrcPastTheEndOfMemory
  intro s hu hpast hread
  have hstart : addrOf s.aL ≤ 2 ^ 32 := (low32 s.aL).isLt.le
  exact exec_of_eval_error hu (eval_bind_error _ _ (eval_crcLoop_outside _ _ _ _ hstart hpast hread))

end Sys2Proof.Proofs
end

section
/-! PROOFS. How a command's run ends (60_exceptions R281 to R287, 70 R330, R331): its error codes and the memory under its
own errors, that it ends at all, and that a run in slices is the whole run. -/

namespace Sys2Proof.Machine

/-! ## What an access leaves of the running command -/

theorem portRead_note_command {s t : State} {a : Nat} {n : Size} {v : BitVec 32} (h : portRead s a n = .ok v t)
    (x : Access) : (t.note x).busy = s.busy ∧ (t.note x).err = s.err ∧ (t.note x).progress = s.progress ++ [x] := by
  obtain ⟨-, ⟨-, -, rfl⟩ | ⟨-, rfl⟩⟩ := portRead_ok h <;> exact ⟨rfl, rfl, rfl⟩

theorem portWrite_note_command {s t : State} {a : Nat} {n : Size} {v w : BitVec 32} (h : portWrite s a n v = .ok w t)
    (x : Access) : (t.note x).busy = s.busy ∧ (t.note x).err = s.err ∧ (t.note x).progress = s.progress ++ [x] := by
  obtain ⟨-, rfl | rfl⟩ := portWrite_ok h <;> exact ⟨rfl, rfl, rfl⟩

/-! ## The error codes (R281 to R287) -/

/-- Where a run changes ERR it has raised an error: a bus error of the port or one of the program's own. -/
theorem run_err {ok : ErrCode → Prop} (p : Prog Int) (hp : p.RaisesOnly ok) :
    ∀ (g : Option Nat) (d : List Access) (s t : State), p.run g d s = .next t →
      t.err = s.err ∨ ∃ (u : State) (e : ErrCode), (e = .busErr ∨ ok e) ∧ t = u.raise e := by
  induction p with
  | pure r => intro g d s t h; obtain rfl | rfl := run_pure_next h <;> exact .inl rfl
  | fail e =>
    intro g d s t h
    obtain rfl | rfl := run_fail_next h
    · exact .inl rfl
    · exact .inr ⟨s, e, .inr hp, rfl⟩
  | read a n k ih =>
    intro g d s t h
    obtain ⟨v, rest, hrun⟩ | rfl | rfl | ⟨g', v, s', hport, hrun⟩ := run_read_next h
    · exact ih v (hp v) _ _ _ _ hrun
    · exact .inl rfl
    · exact .inr ⟨s, .busErr, .inl rfl, rfl⟩
    · obtain ⟨-, herr, -⟩ := portRead_note_command hport _
      rw [← herr]
      exact ih v (hp v) _ _ _ _ hrun
  | write a n v k ih =>
    intro g d s t h
    obtain ⟨rest, hrun⟩ | rfl | rfl | ⟨g', w, s', hport, hrun⟩ := run_write_next h
    · exact ih hp _ _ _ _ hrun
    · exact .inl rfl
    · exact .inr ⟨s, .busErr, .inl rfl, rfl⟩
    · obtain ⟨-, herr, -⟩ := portWrite_note_command hport _
      rw [← herr]
      exact ih hp _ _ _ _ hrun

/-- A program that raises nothing itself changes ERR by a bus error only. -/
theorem run_err_of_raisesNothing {p : Prog Int} (hp : p.RaisesOnly fun _ => False) {g : Option Nat} {d : List Access}
    {s t : State} (h : p.run g d s = .next t) : t.err = s.err ∨ t.err = .busErr := by
  obtain herr | ⟨u, e, rfl | hnone, rfl⟩ := run_err p hp _ _ _ _ h
  · exact .inl herr
  · exact .inr rfl
  · exact hnone.elim

/-- The arithmetic commands compute their result and make no access (R287). -/
theorem formProg_pure_of_not_reachesMemory {f : Form} (h : reachesMemory f = false) (s : State) :
    ∃ r, formProg f s = .pure r := by
  cases f with
  | div | mul | mulw | muldiv | lim => exact ⟨_, rfl⟩
  | dsearch | curve | map | mapg | savg | deb | tstart | telapsed | tisstopped | tstop | crc8 => cases h

/-- A command that changes ERR has raised a code that R287's table has for it. -/
theorem exec_err {i : Instr} {s t : State} (h : exec i s = .next t) :
    t.err = s.err ∨ ∃ (u : State) (e : ErrCode), mayEnd i.form e = true ∧ t = u.raise e := by
  rw [exec_eq_runCommand] at h
  cases hreach : reachesMemory i.form with
  | false =>
    obtain ⟨r, hprog⟩ := formProg_pure_of_not_reachesMemory hreach s
    rw [hprog] at h
    obtain rfl | rfl := run_pure_next h <;> exact .inl rfl
  | true =>
    obtain herr | ⟨u, e, rfl | ⟨-, hmay⟩, rfl⟩ := run_err _ (formProg_raisesOnly i.form s) _ _ _ _ h
    · exact .inl herr
    · exact .inr ⟨u, .busErr, hreach, rfl⟩
    · exact .inr ⟨u, e, hmay, rfl⟩

/-! ## Memory under a command's own errors (R283, R285) -/

/-- On no path does the program raise an error of its own after a write. -/
def Prog.ChecksFirst {α : Type} : Prog α → Prop
  | .pure _ => True
  | .fail _ => True
  | .read _ _ k => ∀ v, (k v).ChecksFirst
  | .write _ _ _ k => k.RaisesOnly fun _ => False

section
variable {α β : Type}

theorem Prog.WriteFree.checksFirst_bind {p : Prog α} {f : α → Prog β} (hp : p.WriteFree) (hf : ∀ r, (f r).ChecksFirst) :
    (p.bind f).ChecksFirst := by
  induction p with
  | pure r => exact hf r
  | fail e => trivial
  | read a n k ih => exact fun v => ih v (hp v)
  | write a n v k ih => exact hp.elim

theorem checksFirst_memWrite_bind (a : Nat) (n : Size) (v : BitVec 32) {f : Unit → Prog β}
    (hf : (f ()).RaisesOnly fun _ => False) : ((memWrite a n v).bind f).ChecksFirst := hf

end

/-- The commands that write check their records before their first write. -/
theorem formProg_checksFirst {f : Form} (hf : writesMemory f = true) (s : State) : (formProg f s).ChecksFirst := by
  cases f with
  | div | mul | mulw | muldiv | lim | dsearch | curve | map | mapg | telapsed | tisstopped | crc8 => cases hf
  | savg et =>
    exact (writeFree_checkAlign _ _).checksFirst_bind fun _ => (writeFree_memRead _ _).checksFirst_bind fun _ =>
      (writeFree_memRead _ _).checksFirst_bind fun _ => (writeFree_memRead _ _).checksFirst_bind fun _ =>
      (writeFree_raiseIf _ _).checksFirst_bind fun _ => (writeFree_memRead _ _).checksFirst_bind fun _ =>
      checksFirst_memWrite_bind _ _ _ ((raisesOnly_memWrite _ _ _).bind fun _ =>
        (raisesOnly_memWrite _ _ _).bind fun _ => trivial)
  | deb =>
    exact (writeFree_checkAlign _ _).checksFirst_bind fun _ => (writeFree_memRead _ _).checksFirst_bind fun _ =>
      (writeFree_memRead _ _).checksFirst_bind fun _ => (writeFree_memRead _ _).checksFirst_bind fun _ =>
      (writeFree_memRead _ _).checksFirst_bind fun _ =>
      checksFirst_memWrite_bind _ _ _ ((raisesOnly_memWrite _ _ _).bind fun _ => trivial)
  | tstart | tstop =>
    exact (writeFree_checkAlign _ _).checksFirst_bind fun _ => checksFirst_memWrite_bind _ _ _ trivial

/-- A run that checks first leaves memory alone where it ends in an error of the program's own. -/
theorem run_mem_of_checksFirst (p : Prog Int) (hp : p.ChecksFirst) :
    ∀ (g : Option Nat) (d : List Access) (s t : State), p.run g d s = .next t →
      t.mem = s.mem ∨ t.err = s.err ∨ t.err = .busErr := by
  induction p with
  | pure r => intro g d s t h; obtain rfl | rfl := run_pure_next h <;> exact .inl rfl
  | fail e => intro g d s t h; obtain rfl | rfl := run_fail_next h <;> exact .inl rfl
  | read a n k ih =>
    intro g d s t h
    obtain ⟨v, rest, hrun⟩ | rfl | rfl | ⟨g', v, s', hport, hrun⟩ := run_read_next h
    · exact ih v (hp v) _ _ _ _ hrun
    · exact .inl rfl
    · exact .inl rfl
    · obtain ⟨-, herr, -⟩ := portRead_note_command hport _
      have hrest := ih v (hp v) _ _ _ _ hrun
      rwa [herr, State.note_mem, portRead_mem hport] at hrest
  | write a n v k ih =>
    intro g d s t h
    obtain ⟨rest, hrun⟩ | rfl | rfl | ⟨g', w, s', hport, hrun⟩ := run_write_next h
    · exact .inr (run_err_of_raisesNothing hp hrun)
    · exact .inl rfl
    · exact .inl rfl
    · obtain ⟨-, herr, -⟩ := portWrite_note_command hport _
      rw [← herr]
      exact .inr (run_err_of_raisesNothing hp hrun)

/-- A command leaves memory alone, or ERR, or ends with BUSERR. -/
theorem exec_mem_of_error {i : Instr} {s t : State} (h : exec i s = .next t) :
    t.mem = s.mem ∨ t.err = s.err ∨ t.err = .busErr := by
  cases hwrites : writesMemory i.form with
  | false => exact .inl (exec_mem_of_writeFree hwrites h)
  | true =>
    rw [exec_eq_runCommand] at h
    exact run_mem_of_checksFirst _ (formProg_checksFirst hwrites s) _ _ _ _ h

/-! ## Every run ends (70 R331) -/

/-- No region of the platform is a device with read side effects (20_memory R58). -/
def NoDevice (regions : List Region) : Prop := ∀ r ∈ regions, r.kind ≠ .device

theorem NoDevice.hitsRegion {regions : List Region} (h : NoDevice regions) (a : Nat) (n : Size) :
    hitsRegion regions a n RegionKind.isDevice = false := by
  rw [Machine.hitsRegion, List.any_eq_false]
  intro r hr
  have hkind : r.kind.isDevice = false := by
    cases hk : r.kind with
    | device => exact absurd hk (h r hr)
    | readFails | writeFails | absent => rfl
  simp [hkind]

theorem portRead_of_noDevice {s : State} (h : NoDevice s.platform) (a : Nat) (n : Size) :
    portRead s a n = .busError ∨ ∃ v t, portRead s a n = .ok v t := by
  simp only [portRead, h.hitsRegion, Bool.false_eq_true, if_false]
  split_ifs
  · exact .inl rfl
  · exact .inr ⟨_, _, rfl⟩
  · exact .inr ⟨_, _, rfl⟩
  · exact .inl rfl

theorem portWrite_of_noDevice {s : State} (h : NoDevice s.platform) (a : Nat) (n : Size) (v : BitVec 32) :
    portWrite s a n v = .busError ∨ ∃ w t, portWrite s a n v = .ok w t := by
  simp only [portWrite, h.hitsRegion, Bool.false_eq_true, if_false]
  split_ifs
  · exact .inl rfl
  · exact .inr ⟨_, _, rfl⟩
  · exact .inr ⟨_, _, rfl⟩
  · exact .inl rfl

/-- A step is taken from a grant, which stays unbounded where it was, or none is left. -/
theorem spend_cases (g : Option Nat) :
    (g ≠ none ∧ spend g = none) ∨ ∃ g', spend g = some g' ∧ (g = none → g' = none) := by
  match g with
  | none => exact .inr ⟨none, rfl, fun _ => rfl⟩
  | some 0 => exact .inl ⟨nofun, rfl⟩
  | some (k + 1) => exact .inr ⟨some k, rfl, nofun⟩

/-- The unit idle, with nothing in progress. -/
def State.Idle (s : State) : Prop := s.busy = false ∧ s.progress = [] ∧ s.hostTouch = []

/-- Without a device every run gives a next state, an idle one where the grant is unbounded: each access is a step into a
shorter program. -/
theorem run_total (p : Prog Int) : ∀ (g : Option Nat) (d : List Access) (s : State), NoDevice s.platform →
    ∃ t, p.run g d s = .next t ∧ (g = none → t.Idle) := by
  induction p with
  | pure r =>
    intro g d s hdev
    obtain ⟨hg, hspend⟩ | ⟨g', hspend, -⟩ := spend_cases g <;> simp only [Prog.run, hspend]
    · exact ⟨s, rfl, fun h => absurd h hg⟩
    · exact ⟨s.finish r, rfl, fun _ => ⟨rfl, rfl, rfl⟩⟩
  | fail e =>
    intro g d s hdev
    obtain ⟨hg, hspend⟩ | ⟨g', hspend, -⟩ := spend_cases g <;> simp only [Prog.run, hspend]
    · exact ⟨s, rfl, fun h => absurd h hg⟩
    · exact ⟨s.raise e, rfl, fun _ => ⟨rfl, rfl, rfl⟩⟩
  | read a n k ih =>
    intro g d s hdev
    cases d with
    | cons x rest => exact ih x.value g rest s hdev
    | nil =>
      obtain ⟨hg, hspend⟩ | ⟨g', hspend, hnone⟩ := spend_cases g <;> simp only [Prog.run, hspend]
      · exact ⟨s, rfl, fun h => absurd h hg⟩
      · obtain hport | ⟨v, s', hport⟩ := portRead_of_noDevice hdev a n <;> simp only [hport]
        · exact ⟨s.raise .busErr, rfl, fun _ => ⟨rfl, rfl, rfl⟩⟩
        · have hdev' : NoDevice s'.platform := (SameSurroundings.portRead hport).platform ▸ hdev
          obtain ⟨t, hrun, hidle⟩ := ih v g' [] (s'.note _) hdev'
          exact ⟨t, hrun, fun h => hidle (hnone h)⟩
  | write a n v k ih =>
    intro g d s hdev
    cases d with
    | cons x rest => exact ih g rest s hdev
    | nil =>
      obtain ⟨hg, hspend⟩ | ⟨g', hspend, hnone⟩ := spend_cases g <;> simp only [Prog.run, hspend]
      · exact ⟨s, rfl, fun h => absurd h hg⟩
      · obtain hport | ⟨w, s', hport⟩ := portWrite_of_noDevice hdev a n v <;> simp only [hport]
        · exact ⟨s.raise .busErr, rfl, fun _ => ⟨rfl, rfl, rfl⟩⟩
        · have hdev' : NoDevice s'.platform := (SameSurroundings.portWrite hport).platform ▸ hdev
          obtain ⟨t, hrun, hidle⟩ := ih g' [] (s'.note _) hdev'
          exact ⟨t, hrun, fun h => hidle (hnone h)⟩

/-! ## A run in slices (70 R330) -/

/-- The state with another grant. -/
def State.withGrant (s : State) (g : Option Nat) : State := { s with grant := g }

theorem portRead_withGrant (s : State) (g : Option Nat) (a : Nat) (n : Size) :
    portRead (s.withGrant g) a n = (portRead s a n).mapState (·.withGrant g) := by
  simp only [portRead, apply_ite (PortAnswer.mapState _)]
  rfl

theorem portWrite_withGrant (s : State) (g : Option Nat) (a : Nat) (n : Size) (v : BitVec 32) :
    portWrite (s.withGrant g) a n v = (portWrite s a n v).mapState (·.withGrant g) := by
  simp only [portWrite, apply_ite (PortAnswer.mapState _)]
  rfl

/-- A command's program is made of the latched operands and the parameters. -/
theorem formProg_congr {s t : State} (f : Form) (ha : t.aL = s.aL) (hb : t.bL = s.bL) (hc : t.cL = s.cL)
    (hp : t.params = s.params) : formProg f t = formProg f s := by
  cases s; cases t; cases ha; cases hb; cases hc; cases hp
  cases f <;> rfl

/-- The run of `p` from `s` to its end, the accesses `d` done before. -/
def Prog.runWhole (p : Prog Int) (d : List Access) (s : State) : Host.Outcome State Fault Refusal :=
  p.run none d (s.withGrant none)

section
variable {s s' : State} {a : Nat} {n : Size} {v w : BitVec 32} {r : Refusal}

theorem runWhole_read_ok (k : BitVec 32 → Prog Int) (h : portRead s a n = .ok v s') :
    (Prog.read a n k).runWhole [] s =
      (k v).runWhole [] (s'.note { addr := a, size := n, isWrite := false, value := v, old := v }) := by
  simp only [Prog.runWhole, Prog.run, spend_none, portRead_withGrant, h, PortAnswer.mapState]
  rfl

theorem runWhole_read_busError (k : BitVec 32 → Prog Int) (h : portRead s a n = .busError) :
    (Prog.read a n k).runWhole [] s = .next ((s.raise .busErr).withGrant none) := by
  simp only [Prog.runWhole, Prog.run, spend_none, portRead_withGrant, h, PortAnswer.mapState]
  rfl

theorem runWhole_read_refused (k : BitVec 32 → Prog Int) (h : portRead s a n = .refused r) :
    (Prog.read a n k).runWhole [] s = .refused r := by
  simp only [Prog.runWhole, Prog.run, spend_none, portRead_withGrant, h, PortAnswer.mapState]

theorem runWhole_write_ok (k : Prog Int) (h : portWrite s a n v = .ok w s') :
    (Prog.write a n v k).runWhole [] s =
      k.runWhole [] (s'.note { addr := a, size := n, isWrite := true, value := v, old := loadMem s.mem a n }) := by
  simp only [Prog.runWhole, Prog.run, spend_none, portWrite_withGrant, h, PortAnswer.mapState]
  rfl

theorem runWhole_write_busError (k : Prog Int) (h : portWrite s a n v = .busError) :
    (Prog.write a n v k).runWhole [] s = .next ((s.raise .busErr).withGrant none) := by
  simp only [Prog.runWhole, Prog.run, spend_none, portWrite_withGrant, h, PortAnswer.mapState]
  rfl

theorem runWhole_write_refused (k : Prog Int) (h : portWrite s a n v = .refused r) :
    (Prog.write a n v k).runWhole [] s = .refused r := by
  simp only [Prog.runWhole, Prog.run, spend_none, portWrite_withGrant, h, PortAnswer.mapState]

end

/-- What a slice's outcome says of the whole run from the same state: a command still running has made more accesses, from
which it goes on to what the whole run gives, and a command that has ended ended as the whole run does. -/
def Prog.SliceOf (p : Prog Int) (d : List Access) (s : State) : Host.Outcome State Fault Refusal → Prop
  | .next t =>
    if t.busy then ∃ xs, t.progress = s.progress ++ xs ∧ p.runWhole (d ++ xs) t = p.runWhole d s
    else p.runWhole d s = .next (t.withGrant none)
  | .fault f => p.runWhole d s = .fault f
  | .refused r => p.runWhole d s = .refused r

section
variable {p k : Prog Int} {d : List Access} {s s' t : State} {x : Access}

/-- With no step left the command stays where it is. -/
theorem Prog.SliceOf.spent (hb : s.busy = true) : p.SliceOf d s (.next s) := by
  simp only [Prog.SliceOf, hb, if_true]
  exact ⟨[], (List.append_nil _).symm, by rw [List.append_nil]⟩

theorem Prog.SliceOf.ended (hb : t.busy = false) (h : p.runWhole d s = .next (t.withGrant none)) :
    p.SliceOf d s (.next t) := by
  simpa only [Prog.SliceOf, hb, Bool.false_eq_true, if_false] using h

/-- An access made: the program before it, that access passed over, is what follows it. -/
theorem Prog.SliceOf.of_access (hpass : ∀ rest u, p.runWhole (x :: rest) u = k.runWhole rest u)
    (hwhole : p.runWhole [] s = k.runWhole [] s') (hprogress : s'.progress = s.progress ++ [x])
    {o : Host.Outcome State Fault Refusal} (h : k.SliceOf [] s' o) : p.SliceOf [] s o := by
  cases o with
  | next t =>
    cases hb : t.busy with
    | false =>
      simp only [Prog.SliceOf, hb, Bool.false_eq_true, if_false] at h
      exact .ended hb (hwhole.trans h)
    | true =>
      simp only [Prog.SliceOf, hb, if_true] at h ⊢
      obtain ⟨xs, ht, hrun⟩ := h
      refine ⟨x :: xs, by rw [ht, hprogress, List.append_assoc, List.singleton_append], ?_⟩
      exact (hpass xs t).trans (hrun.trans hwhole.symm)
  | fault f => exact hwhole.trans h
  | refused r => exact hwhole.trans h

end

/-- Any number of steps of a busy unit is a slice of the whole run. -/
theorem run_sliceOf (p : Prog Int) : ∀ (n : Nat) (d : List Access) (s : State), s.busy = true →
    p.SliceOf d s (p.run (some n) d s) := by
  induction p with
  | pure r =>
    intro n d s hb
    cases n with
    | zero => exact .spent hb
    | succ n => exact .ended rfl rfl
  | fail e =>
    intro n d s hb
    cases n with
    | zero => exact .spent hb
    | succ n => exact .ended rfl rfl
  | read a size k ih =>
    intro n d s hb
    cases d with
    | cons x rest => exact ih x.value n rest s hb
    | nil =>
      cases n with
      | zero => exact .spent hb
      | succ n =>
        simp only [Prog.run, spend_succ]
        cases hport : portRead s a size with
        | ok v s' =>
          obtain ⟨hbusy, -, hprogress⟩ := portRead_note_command hport _
          exact .of_access (fun _ _ => rfl) (runWhole_read_ok k hport) hprogress (ih v n [] _ (hbusy.trans hb))
        | busError => exact .ended rfl (runWhole_read_busError k hport)
        | refused r => exact runWhole_read_refused k hport
  | write a size v k ih =>
    intro n d s hb
    cases d with
    | cons x rest => exact ih n rest s hb
    | nil =>
      cases n with
      | zero => exact .spent hb
      | succ n =>
        simp only [Prog.run, spend_succ]
        cases hport : portWrite s a size v with
        | ok w s' =>
          obtain ⟨hbusy, -, hprogress⟩ := portWrite_note_command hport _
          exact .of_access (fun _ _ => rfl) (runWhole_write_ok k hport) hprogress (ih n [] _ (hbusy.trans hb))
        | busError => exact .ended rfl (runWhole_write_busError k hport)
        | refused r => exact runWhole_write_refused k hport

theorem exec_withGrant (i : Instr) (s : State) (g : Option Nat) :
    exec i (s.withGrant g) = (formProg i.form s).run g s.progress (s.withGrant g) := by
  rw [exec_eq_runCommand, runCommand, formProg_congr i.form (s := s) rfl rfl rfl rfl]
  rfl

theorem exec_sliceOf (i : Instr) (n : Nat) {s : State} (hb : s.busy = true) :
    (formProg i.form s).SliceOf s.progress s (exec i (s.withGrant (some n))) := by
  rw [exec_withGrant]
  exact run_sliceOf (formProg i.form s) n s.progress (s.withGrant (some n)) hb

/-- A run that stops stops the same way at once. -/
theorem exec_of_slice_stopped {i : Instr} {n : Nat} {s : State} (hb : s.busy = true)
    {o : Host.Outcome State Fault Refusal} (h : exec i (s.withGrant (some n)) = o) (hstop : ∀ t, o ≠ .next t) :
    exec i (s.withGrant none) = o := by
  have hslice := exec_sliceOf i n hb
  rw [h] at hslice
  rw [exec_withGrant]
  cases o with
  | next t => exact absurd rfl (hstop t)
  | fault f => exact hslice
  | refused r => exact hslice

section
variable {i : Instr} {n : Nat} {s t : State} (hb : s.busy = true) (h : exec i (s.withGrant (some n)) = .next t)
include hb h

/-- A command still running has the latches and parameters it began with, so it goes on with the same program. -/
theorem exec_of_slice_running (hrunning : t.busy = true) : exec i (t.withGrant none) = exec i (s.withGrant none) := by
  have hslice := exec_sliceOf i n hb
  rw [h, Prog.SliceOf, if_pos hrunning] at hslice
  obtain ⟨xs, hprogress, hrun⟩ := hslice
  have hsame := exec_sameSurroundings h
  have hprog : formProg i.form t = formProg i.form s := formProg_congr _ hsame.aL hsame.bL hsame.cL hsame.params
  calc exec i (t.withGrant none)
      = (formProg i.form t).runWhole t.progress t := exec_withGrant i t none
    _ = (formProg i.form s).runWhole s.progress s := by rw [hprog, hprogress, hrun]
    _ = exec i (s.withGrant none) := (exec_withGrant i s none).symm

theorem exec_of_slice_ended (hended : ¬ t.busy = true) : exec i (s.withGrant none) = .next (t.withGrant none) := by
  have hslice := exec_sliceOf i n hb
  rw [h, Prog.SliceOf, if_neg hended] at hslice
  rwa [exec_withGrant]

end

end Sys2Proof.Machine

namespace Sys2Proof.Proofs

open Machine

/-- Settles O19: an ERR that has changed was raised, with a code of R287's table, and only BUSERR comes after a write. -/
theorem errorCodesOfEachCommand : Obligations.ErrorCodesOfEachCommand := by
  unfold Obligations.ErrorCodesOfEachCommand
  intro i s t herr _ _ hexec
  refine ⟨?code, ?result, ?memory⟩
  case code =>
    obtain hsame | ⟨u, e, hmay, rfl⟩ := exec_err hexec
    · rw [hsame, herr]; rfl
    · exact hmay
  case result =>
    intro hne
    obtain hsame | ⟨u, e, -, rfl⟩ := exec_err hexec
    · exact absurd (hsame.trans herr) hne
    · exact ⟨u.draws, rfl⟩
  case memory =>
    intro hown
    obtain hmem | hsame | hbus := exec_mem_of_error hexec
    · exact hmem
    · rw [hsame, herr] at hown; simp at hown
    · rw [hbus] at hown; simp at hown

/-- Settles O17: a command's program is finite, and without a device the port answers each of its accesses. -/
theorem everyCommandEnds : Obligations.EveryCommandEnds := by
  unfold Obligations.EveryCommandEnds
  intro i s hdev
  rw [exec_eq_runCommand]
  exact run_total _ _ _ _ hdev

/-- Settles O18: by the slice's outcome, a command still running told from one that has ended. -/
theorem slicedRunEqualsWholeRun : Obligations.SlicedRunEqualsWholeRun := by
  unfold Obligations.SlicedRunEqualsWholeRun
  intro i s n hb
  cases hexec : exec i { s with grant := some n } with
  | next t =>
    by_cases hrunning : t.busy = true
    · exact (if_pos hrunning).mpr (exec_of_slice_running hb hexec hrunning)
    · exact (if_neg hrunning).mpr (exec_of_slice_ended hb hexec hrunning)
  | fault f => exact exec_of_slice_stopped hb hexec (by simp)
  | refused r => exact exec_of_slice_stopped hb hexec (by simp)

end Sys2Proof.Proofs
end

section
/-! PROOFS. The CMD write (10_state R30, 70 R321), the idle unit (60 R301), and reset with an access in flight (70 R310). -/

namespace Sys2Proof.Machine

/-! ## The CMD write and the idle unit -/

/-- CMD stands at the block's first word. -/
theorem hostRegWrite_cmd (s : State) (w : BitVec 32) :
    hostRegWrite s (pBase s.params) 4 w = .next (if s.busy then s.recordProtocol else accept s w) := by
  have hword := hostRegWrite_word s (off := 0) w (by decide) rfl
  rwa [BitVec.add_zero] at hword

/-- The turn of an idle unit. -/
theorem unitTurn_idle {s : State} (h : s.busy = false) (g : Option Nat) : unitTurn g s = .next s := by
  simp [unitTurn, h]

/-! ## One internal step (20_memory R57) -/

/-- What one internal step can do to memory: the step makes no write and leaves it, or makes one, inside the address space
and stored whole. -/
def OneStepMemory (s u : State) : Prop :=
  (u.mem = s.mem ∧ ∀ x, u.progress = s.progress ++ [x] → x.isWrite = false) ∨
    ∃ x, u.progress = s.progress ++ [x] ∧ x.isWrite = true ∧ inRange x.addr x.size = true ∧
      u.mem = storeMem s.mem x.addr x.size x.value

section
variable {s u : State}

/-- A step that makes no access. -/
theorem oneStepMemory_of_same (hmem : u.mem = s.mem) (hprogress : u.progress = s.progress) : OneStepMemory s u :=
  .inl ⟨hmem, fun x hx => by simp [hprogress] at hx⟩

/-- The command's end. -/
theorem oneStepMemory_of_end (hmem : u.mem = s.mem) (hprogress : u.progress = []) : OneStepMemory s u :=
  .inl ⟨hmem, fun x hx => by simp [hprogress] at hx⟩

theorem oneStepMemory_of_read {a : Nat} {n : Size} {v : BitVec 32} (h : portRead s a n = .ok v u) {x : Access}
    (hx : x.isWrite = false) : OneStepMemory s (u.note x) := by
  obtain ⟨-, -, hprogress⟩ := portRead_note_command h x
  have hmem : u.mem = s.mem := portRead_mem h
  refine .inl ⟨hmem, fun y hy => ?_⟩
  rw [hprogress, List.append_cancel_left_eq, List.singleton_inj] at hy
  rwa [← hy]

theorem oneStepMemory_of_write {a : Nat} {n : Size} {v w old : BitVec 32} (h : portWrite s a n v = .ok w u) :
    OneStepMemory s (u.note { addr := a, size := n, isWrite := true, value := v, old := old }) := by
  obtain ⟨-, -, hprogress⟩ := portWrite_note_command h
    { addr := a, size := n, isWrite := true, value := v, old := old }
  obtain ⟨hwritable, -⟩ := portWrite_ok h
  obtain ⟨hstate, -⟩ := portWrite_race h
  exact .inr ⟨_, hprogress, rfl, inRange_of_writable hwritable, by rw [State.note_mem, hstate]⟩

end

/-- A turn with no step left leaves a program at its next access where it is. -/
theorem run_spent (p : Prog Int) (s : State) : p.run (some 0) [] s = .next s := by cases p <;> rfl

theorem run_one (p : Prog Int) : ∀ (d : List Access) (s u : State), p.run (some 1) d s = .next u → OneStepMemory s u := by
  induction p with
  | pure r => intro d s u h; cases h; exact oneStepMemory_of_end rfl rfl
  | fail e => intro d s u h; cases h; exact oneStepMemory_of_end rfl rfl
  | read a n k ih =>
    intro d s u h
    cases d with
    | cons x rest => exact ih x.value rest s u h
    | nil =>
      simp only [Prog.run, spend_succ] at h
      split at h
      · next hport => rw [run_spent] at h; cases h; exact oneStepMemory_of_read hport rfl
      · cases h; exact oneStepMemory_of_end rfl rfl
      · cases h
  | write a n v k ih =>
    intro d s u h
    cases d with
    | cons x rest => exact ih rest s u h
    | nil =>
      simp only [Prog.run, spend_succ] at h
      split at h
      · next hport => rw [run_spent] at h; cases h; exact oneStepMemory_of_write hport
      · cases h; exact oneStepMemory_of_end rfl rfl
      · cases h

/-- One internal step of the unit, busy or idle; the actions to come are not its concern. -/
theorem unitTurn_one {s u : State} (h : unitTurn (some 1) s = .next u) : OneStepMemory s u ∧ u.inputs = s.inputs := by
  obtain ⟨-, i, -, hexec⟩ | ⟨-, rfl⟩ := unitTurn_next h
  · have hinputs := (exec_sameSurroundings hexec).inputs
    rw [exec_eq_runCommand] at hexec
    have hstep : OneStepMemory { s with grant := some 1 } u := run_one _ _ _ _ hexec
    exact ⟨hstep, hinputs⟩
  · exact ⟨oneStepMemory_of_same rfl rfl, rfl⟩

/-! ## Reset (70 R310) -/

/-- Reset clears the registers, right away or after the internal step in flight. -/
theorem resetUnit_next {b : Bool} {s t : State} (h : resetUnit b s = .next t) :
    (b = false ∧ t = s.clearRegs) ∨ (b = true ∧ ∃ u, unitTurn (some 1) s = .next u ∧ t = u.clearRegs) := by
  cases b with
  | false => cases h; exact .inl ⟨rfl, rfl⟩
  | true =>
    simp only [resetUnit, if_true] at h
    split at h <;> cases h
    next hturn => exact .inr ⟨rfl, _, hturn, rfl⟩

end Sys2Proof.Machine

namespace Sys2Proof.Proofs

open Machine

/-- Settles O14: a step is the idle unit's turn. -/
theorem idleUnitDoesNothing : Obligations.IdleUnitDoesNothing := by
  unfold Obligations.IdleUnitDoesNothing
  intro s hidle
  refine ⟨fun hin => ?_, fun g rest hin => ?_⟩
  · rw [step_nil hin, unitTurn_idle hidle]
  · rw [step_cons hin]
    exact unitTurn_idle (s := { s with inputs := rest }) hidle g

/-- Settles O8: a busy unit records the lost write, and an idle one accepts the word, as `legal` says. -/
theorem cmdWriteStartsLosesOrRejects : Obligations.CmdWriteStartsLosesOrRejects := by
  unfold Obligations.CmdWriteStartsLosesOrRejects
  intro s w rest hin
  have hstep : step s = .next (if s.busy then ({ s with inputs := rest } : State).recordProtocol
      else accept { s with inputs := rest } w) := (step_cons hin).trans (hostRegWrite_cmd { s with inputs := rest } w)
  refine ⟨fun hbusy => ?lost, fun hidle hlegal => ?started, fun hidle hillegal => ?rejected⟩
  case lost => rw [hstep, if_pos hbusy]; rfl
  case started => rw [hstep, hidle, if_neg Bool.false_ne_true, accept, if_pos hlegal]
  case rejected => rw [hstep, hidle, if_neg Bool.false_ne_true, accept, hillegal, if_neg Bool.false_ne_true]

/-- Settles O7: the registers clear after at most one internal step, whose write is stored whole. -/
theorem resetNeverSplitsAWrite : Obligations.ResetNeverSplitsAWrite := by
  unfold Obligations.ResetNeverSplitsAWrite
  intro s t b rest hin hstep
  rw [step_cons hin] at hstep
  obtain ⟨rfl, rfl⟩ | ⟨rfl, u, hturn, rfl⟩ := resetUnit_next hstep
  · exact ⟨rfl, rfl, rfl, rfl, rfl, rfl, rfl, rfl, rfl, rfl, rfl, rfl, rfl, fun _ => rfl, nofun⟩
  · obtain ⟨hmemory, hinputs⟩ := unitTurn_one hturn
    refine ⟨rfl, rfl, rfl, rfl, rfl, rfl, rfl, rfl, rfl, rfl, rfl, rfl, hinputs, nofun,
      fun _ => ⟨u, hturn, rfl, fun x hx hwrite => ?_, fun hnone => ?_⟩⟩
    · obtain ⟨-, hreads⟩ | ⟨y, hy, -, hstored⟩ := hmemory
      · exact absurd hwrite (by simp [hreads x hx])
      · rw [hy, List.append_cancel_left_eq, List.singleton_inj] at hx
        exact hx ▸ hstored
    · obtain ⟨hmem, -⟩ | ⟨y, hy, hwrite, -⟩ := hmemory
      · exact hmem
      · exact absurd ⟨y, hy, hwrite⟩ hnone

end Sys2Proof.Proofs
end
